-- ==== Sys2Proof/Word.lean ====
section
/-! DEFINITION. The word types of the block: 32-bit registers, 8-bit command fields, 16-bit fine counters. -/

namespace Sys2Proof

/-- A 32-bit word: the width of every register, ring slot and binary32 value (10_state.md; R10). -/
abbrev Word := BitVec 32

/-- An 8-bit field of a command word, a flag identifier byte, or a byte of the window (R100, R46, R74). -/
abbrev Byte := BitVec 8

/-- A 16-bit fine time count (R45, R46). -/
abbrev Half := BitVec 16

end Sys2Proof
end

