-- ==== Sys2Proof/Syntax.lean ====
section
/-! DEFINITION. The commands of the block: one constructor per row of spec/opcode_table.json (R103). -/

namespace Sys2Proof

/-- The two arrays of the coefficient staging bank, AUX[0] of COEF_WR (R180). -/
inductive Bank where
  /-- Numerator coefficients, AUX[0] = 0. -/
  | numer
  /-- Denominator coefficients, AUX[0] = 1. -/
  | denom
deriving DecidableEq, Repr

/-- A controller's mode-select rule, the bit `sel` (R41, R250). -/
inductive SelRule where
  /-- 0: velocity mode is inferred from `target_vel > 0`. -/
  | sign
  /-- 1: the mode last commanded decides. -/
  | mode
deriving DecidableEq, Repr

/-- A decoded command (R100, R103). Instances, indices, orders and selectors are the numbers in their
8-bit fields; whether they are in range is checked when the command executes (R106, R334), because a
word whose number is out of range is still that command, and faults. -/
inductive Instr where
  | nop
  | softReset
  | rbInit (r : Nat)
  | rbPushBack (r : Nat)
  | rbPushFront (r : Nat)
  | rbPopBack (r : Nat)
  | rbPopFront (r : Nat)
  | rbGet (r i : Nat)
  | rbSet (r i : Nat)
  | rbLength (r : Nat)
  | coefWr (bank : Bank) (i : Nat)
  | filtInit (f o : Nat)
  | filtValue (f : Nat)
  | filtLast (f : Nat)
  | filtSetto (f : Nat)
  | filtShiftby (f : Nat)
  | filtRead (f i sel : Nat)
  | ctrlInit (c o : Nat) (m : SelRule)
  | ctrlSetPos (c : Nat)
  | ctrlSetVel (c : Nat)
  | ctrlUpdate (c : Nat)
  | ctrlLast (c : Nat)
  | ctrlSetto (c : Nat)
  | ctrlShiftby (c : Nat)
  | ctrlRead (c sel : Nat)
  | qdInit (n : Nat)
  | qdRead (n : Nat)
  | qdReadBoth
  | qdAngle (n : Nat)
  | qdSetScale (n : Nat)
  | qdState (n : Nat)
  | qdInject (n : Nat) (x b : Bool)
  | timeRead
  | flagArm (g : Nat) (subcmd cmd : Byte)
  | flagCancel (g : Nat)
  | flagPoll (g : Nat)
  | flagDone (g : Nat)
  | flagRead (g sel : Nat)
  | flagDefault (g : Nat)
deriving DecidableEq, Repr

end Sys2Proof
end

