-- ==== Sys2Proof/WellFormed.lean ====
section
/-! DEFINITION. When a command fits its encoding: every number fits its 8-bit field (R100, R101, R111). -/

namespace Sys2Proof

/-- The number fits an 8-bit field of the command word (R100). -/
def fitsByte (n : Nat) : Bool := decide (n < 256)

/-- Every number operand fits the field R103 places it in. R111: an assembler refuses an operand that
does not fit its field. Whether an instance, an index or an order is in range for the configuration is
not asked here: such a command is well formed and faults when it executes. -/
def Instr.wellFormed : Instr → Bool
  | .nop => true
  | .softReset => true
  | .rbInit r => fitsByte r
  | .rbPushBack r => fitsByte r
  | .rbPushFront r => fitsByte r
  | .rbPopBack r => fitsByte r
  | .rbPopFront r => fitsByte r
  | .rbGet r i => fitsByte r && fitsByte i
  | .rbSet r i => fitsByte r && fitsByte i
  | .rbLength r => fitsByte r
  | .coefWr _ i => fitsByte i
  | .filtInit f o => fitsByte f && fitsByte o
  | .filtValue f => fitsByte f
  | .filtLast f => fitsByte f
  | .filtSetto f => fitsByte f
  | .filtShiftby f => fitsByte f
  | .filtRead f i sel => fitsByte f && fitsByte i && fitsByte sel
  | .ctrlInit c o _ => fitsByte c && fitsByte o
  | .ctrlSetPos c => fitsByte c
  | .ctrlSetVel c => fitsByte c
  | .ctrlUpdate c => fitsByte c
  | .ctrlLast c => fitsByte c
  | .ctrlSetto c => fitsByte c
  | .ctrlShiftby c => fitsByte c
  | .ctrlRead c sel => fitsByte c && fitsByte sel
  | .qdInit n => fitsByte n
  | .qdRead n => fitsByte n
  | .qdReadBoth => true
  | .qdAngle n => fitsByte n
  | .qdSetScale n => fitsByte n
  | .qdState n => fitsByte n
  | .qdInject n _ _ => fitsByte n
  | .timeRead => true
  | .flagArm g _ _ => fitsByte g
  | .flagCancel g => fitsByte g
  | .flagPoll g => fitsByte g
  | .flagDone g => fitsByte g
  | .flagRead g sel => fitsByte g && fitsByte sel
  | .flagDefault g => fitsByte g

end Sys2Proof
end

