-- ==== Sys2Proof/Decode.lean ====
section
/-! DEFINITION. Decoding a 32-bit command word and encoding a command (R100 to R110). -/

namespace Sys2Proof

/-- The OPC field, bits 31:24 (R100). -/
def opcOf (w : Word) : Byte := w.extractLsb' 24 8

/-- The INST field, bits 23:16 (R100). -/
def instOf (w : Word) : Byte := w.extractLsb' 16 8

/-- The IDX field, bits 15:8 (R100). -/
def idxOf (w : Word) : Byte := w.extractLsb' 8 8

/-- The AUX field, bits 7:0 (R100). -/
def auxOf (w : Word) : Byte := w.extractLsb' 0 8

/-- Why a word is no command: the first two checks of R100. -/
inductive DecodeError where
  /-- OPC is not in the map of R103 (R104). -/
  | illegalOpcode
  /-- A reserved field or bit is not zero (R105). -/
  | reservedField
deriving DecidableEq, Repr

/-- The command, if the fields R103 marks `0` are zero; else the reserved-field error (R105). -/
def ifClear (clear : Bool) (i : Instr) : Except DecodeError Instr :=
  if clear then .ok i else .error .reservedField

/-- The staging array that AUX[0] names (R180). -/
def bankOfBit (k : Bool) : Bank := if k then .denom else .numer

/-- The mode-select rule that AUX[0] names (R260). -/
def selOfBit (k : Bool) : SelRule := if k then .mode else .sign

/-- Decoding, steps 1 and 2 of R100: total, and the opcode check comes before the reserved-field check
(R104, R105, R110). The instance, selector, index and order checks belong to the command (R334). -/
def decode (w : Word) : Except DecodeError Instr :=
  let inst := (instOf w).toNat
  let idx := (idxOf w).toNat
  let aux := (auxOf w).toNat
  let onlyInst := idxOf w == 0 && auxOf w == 0
  let nothing := instOf w == 0 && onlyInst
  match (opcOf w).toNat with
  | 0x00 => ifClear nothing .nop
  | 0x01 => ifClear nothing .softReset
  | 0x10 => ifClear onlyInst (.rbInit inst)
  | 0x11 => ifClear onlyInst (.rbPushBack inst)
  | 0x12 => ifClear onlyInst (.rbPushFront inst)
  | 0x13 => ifClear onlyInst (.rbPopBack inst)
  | 0x14 => ifClear onlyInst (.rbPopFront inst)
  | 0x15 => ifClear (auxOf w == 0) (.rbGet inst idx)
  | 0x16 => ifClear (auxOf w == 0) (.rbSet inst idx)
  | 0x17 => ifClear onlyInst (.rbLength inst)
  | 0x20 => ifClear (instOf w == 0 && (auxOf w).extractLsb' 1 7 == 0)
              (.coefWr (bankOfBit ((auxOf w).getLsbD 0)) idx)
  | 0x21 => ifClear (auxOf w == 0) (.filtInit inst idx)
  | 0x22 => ifClear onlyInst (.filtValue inst)
  | 0x23 => ifClear onlyInst (.filtLast inst)
  | 0x24 => ifClear onlyInst (.filtSetto inst)
  | 0x25 => ifClear onlyInst (.filtShiftby inst)
  | 0x26 => .ok (.filtRead inst idx aux)
  | 0x30 => ifClear ((auxOf w).extractLsb' 1 7 == 0)
              (.ctrlInit inst idx (selOfBit ((auxOf w).getLsbD 0)))
  | 0x31 => ifClear onlyInst (.ctrlSetPos inst)
  | 0x32 => ifClear onlyInst (.ctrlSetVel inst)
  | 0x33 => ifClear onlyInst (.ctrlUpdate inst)
  | 0x34 => ifClear onlyInst (.ctrlLast inst)
  | 0x35 => ifClear onlyInst (.ctrlSetto inst)
  | 0x36 => ifClear onlyInst (.ctrlShiftby inst)
  | 0x37 => ifClear (idxOf w == 0) (.ctrlRead inst aux)
  | 0x40 => ifClear onlyInst (.qdInit inst)
  | 0x41 => ifClear onlyInst (.qdRead inst)
  | 0x42 => ifClear nothing .qdReadBoth
  | 0x43 => ifClear onlyInst (.qdAngle inst)
  | 0x44 => ifClear onlyInst (.qdSetScale inst)
  | 0x45 => ifClear onlyInst (.qdState inst)
  | 0x46 => ifClear (idxOf w == 0 && (auxOf w).extractLsb' 2 6 == 0)
              (.qdInject inst ((auxOf w).getLsbD 1) ((auxOf w).getLsbD 0))
  | 0x50 => ifClear nothing .timeRead
  | 0x51 => .ok (.flagArm inst (idxOf w) (auxOf w))
  | 0x52 => ifClear onlyInst (.flagCancel inst)
  | 0x53 => ifClear onlyInst (.flagPoll inst)
  | 0x54 => ifClear onlyInst (.flagDone inst)
  | 0x55 => ifClear (idxOf w == 0) (.flagRead inst aux)
  | 0x56 => ifClear onlyInst (.flagDefault inst)
  | _ => .error .illegalOpcode

/-- The four fields of R100 put together, OPC highest. -/
def pack (opc inst idx aux : Byte) : Word := opc ++ inst ++ idx ++ aux

/-- A number in an 8-bit field (R101). -/
def field (n : Nat) : Byte := BitVec.ofNat 8 n

/-- The `bit0` field of COEF_WR (R180). -/
def bankBit : Bank → Byte
  | .numer => 0
  | .denom => 1

/-- The `bit0` field of CTRL_INIT (R260). -/
def selBit : SelRule → Byte
  | .sign => 0
  | .mode => 1

/-- The `xb` field of QD_INJECT: AUX = 2x + b (R102, R226). -/
def sampleBits (x b : Bool) : Byte := (if x then 2 else 0) + (if b then 1 else 0)

/-- The opcode of a command (R103). -/
def Instr.opcode : Instr → Byte
  | .nop => 0x00
  | .softReset => 0x01
  | .rbInit _ => 0x10
  | .rbPushBack _ => 0x11
  | .rbPushFront _ => 0x12
  | .rbPopBack _ => 0x13
  | .rbPopFront _ => 0x14
  | .rbGet _ _ => 0x15
  | .rbSet _ _ => 0x16
  | .rbLength _ => 0x17
  | .coefWr _ _ => 0x20
  | .filtInit _ _ => 0x21
  | .filtValue _ => 0x22
  | .filtLast _ => 0x23
  | .filtSetto _ => 0x24
  | .filtShiftby _ => 0x25
  | .filtRead _ _ _ => 0x26
  | .ctrlInit _ _ _ => 0x30
  | .ctrlSetPos _ => 0x31
  | .ctrlSetVel _ => 0x32
  | .ctrlUpdate _ => 0x33
  | .ctrlLast _ => 0x34
  | .ctrlSetto _ => 0x35
  | .ctrlShiftby _ => 0x36
  | .ctrlRead _ _ => 0x37
  | .qdInit _ => 0x40
  | .qdRead _ => 0x41
  | .qdReadBoth => 0x42
  | .qdAngle _ => 0x43
  | .qdSetScale _ => 0x44
  | .qdState _ => 0x45
  | .qdInject _ _ _ => 0x46
  | .timeRead => 0x50
  | .flagArm _ _ _ => 0x51
  | .flagCancel _ => 0x52
  | .flagPoll _ => 0x53
  | .flagDone _ => 0x54
  | .flagRead _ _ => 0x55
  | .flagDefault _ => 0x56

/-- The INST field of a command (R103). -/
def Instr.instField : Instr → Byte
  | .nop | .softReset | .coefWr _ _ | .qdReadBoth | .timeRead => 0
  | .rbInit n | .rbPushBack n | .rbPushFront n | .rbPopBack n | .rbPopFront n | .rbLength n
  | .filtValue n | .filtLast n | .filtSetto n | .filtShiftby n
  | .ctrlSetPos n | .ctrlSetVel n | .ctrlUpdate n | .ctrlLast n | .ctrlSetto n | .ctrlShiftby n
  | .qdInit n | .qdRead n | .qdAngle n | .qdSetScale n | .qdState n
  | .flagCancel n | .flagPoll n | .flagDone n | .flagDefault n => field n
  | .rbGet n _ | .rbSet n _ | .filtInit n _ | .ctrlRead n _ | .flagRead n _ => field n
  | .filtRead n _ _ | .ctrlInit n _ _ | .qdInject n _ _ | .flagArm n _ _ => field n

/-- The IDX field of a command (R103). -/
def Instr.idxField : Instr → Byte
  | .rbGet _ i | .rbSet _ i | .coefWr _ i | .filtInit _ i | .filtRead _ i _ | .ctrlInit _ i _ => field i
  | .flagArm _ subcmd _ => subcmd
  | .nop | .softReset | .qdReadBoth | .timeRead
  | .rbInit _ | .rbPushBack _ | .rbPushFront _ | .rbPopBack _ | .rbPopFront _ | .rbLength _
  | .filtValue _ | .filtLast _ | .filtSetto _ | .filtShiftby _
  | .ctrlSetPos _ | .ctrlSetVel _ | .ctrlUpdate _ | .ctrlLast _ | .ctrlSetto _ | .ctrlShiftby _
  | .ctrlRead _ _ | .qdInit _ | .qdRead _ | .qdAngle _ | .qdSetScale _ | .qdState _
  | .qdInject _ _ _ | .flagCancel _ | .flagPoll _ | .flagDone _ | .flagRead _ _
  | .flagDefault _ => 0

/-- The AUX field of a command (R103). -/
def Instr.auxField : Instr → Byte
  | .coefWr bank _ => bankBit bank
  | .ctrlInit _ _ m => selBit m
  | .filtRead _ _ sel => field sel
  | .ctrlRead _ sel => field sel
  | .flagRead _ sel => field sel
  | .qdInject _ x b => sampleBits x b
  | .flagArm _ _ cmd => cmd
  | .nop | .softReset | .qdReadBoth | .timeRead
  | .rbInit _ | .rbPushBack _ | .rbPushFront _ | .rbPopBack _ | .rbPopFront _ | .rbLength _
  | .rbGet _ _ | .rbSet _ _ | .filtInit _ _
  | .filtValue _ | .filtLast _ | .filtSetto _ | .filtShiftby _
  | .ctrlSetPos _ | .ctrlSetVel _ | .ctrlUpdate _ | .ctrlLast _ | .ctrlSetto _ | .ctrlShiftby _
  | .qdInit _ | .qdRead _ | .qdAngle _ | .qdSetScale _ | .qdState _
  | .flagCancel _ | .flagPoll _ | .flagDone _ | .flagDefault _ => 0

/-- The command word of a command (R100, R103). -/
def encode (i : Instr) : Word := pack i.opcode i.instField i.idxField i.auxField

/-- What the decoder reads from a row's bits `w`, of which the table gives `nbits`; the bits above are
zero. The one register write delivers the 32-bit word whole, so no byte order arises (R74, R100). -/
def decodeTableWord (nbits w : Nat) : Option Instr :=
  match decode (BitVec.ofNat 32 (w % 2 ^ nbits)) with
  | .ok i => some i
  | .error _ => none

end Sys2Proof
end

