-- ==== Sys2Proof/Config.lean ====
section
/-! DEFINITION. The implementation parameters of R7 and the two free draws of R6. -/

namespace Sys2Proof

/-- The implementation parameters of the block (R7). A state carries the configuration it belongs to,
so a statement over all states is a statement over all configurations. -/
structure Config where
  /-- log2 of the ring capacity. -/
  rbLog2 : Nat
  /-- Number of host-visible ring buffers. -/
  numRb : Nat
  /-- Number of filters. -/
  numFilt : Nat
  /-- Number of controllers; controller `c` wraps filter `c`. -/
  numCtrl : Nat
  /-- Number of scheduler flags. -/
  numFlag : Nat
  /-- Fine ticks per millisecond, the spec's `F`. -/
  ticksPerMs : Nat
  /-- The word both QD_SCALE registers hold after reset. -/
  qdScaleReset : Word
  /-- Whether a sample event with no edge still saves its levels. -/
  qdSaveOnNoEdge : Bool
  /-- Byte address of the register window. -/
  base : Nat
deriving DecidableEq, Repr, Inhabited

/-- The ring capacity `N = 2^RB_LOG2` (R7). -/
def Config.cap (c : Config) : Nat := 2 ^ c.rbLog2

/-- The largest filter order, `N − 3` (R7). -/
def Config.maxOrder (c : Config) : Nat := c.cap - 3

/-- The test configuration TC of R7. -/
def Config.tc : Config where
  rbLog2 := 3
  numRb := 2
  numFilt := 3
  numCtrl := 2
  numFlag := 7
  ticksPerMs := 250
  qdScaleReset := 0x3D000000
  qdSaveOnNoEdge := false
  base := 0

/-- A pair of encoder levels: the XOR signal `x` and channel B `b` (R210). -/
structure PinSample where
  x : Bool
  b : Bool
deriving DecidableEq, Repr, Inhabited

/-- `PinDraw` (R6, R216): the pin levels met by the draw with this number. A free value: nothing is
known of it (assumption 5). -/
opaque Config.pinDraw : Nat → PinSample

/-- `NaNDraw` (R6, R15): the raw bits of the NaN draw with this number; `nanOf` makes a NaN of them.
A free value: nothing is known of it (assumption 6). -/
opaque Config.nanDraw : Nat → Word

end Sys2Proof
end

