-- ==== Sys2Proof/Machine/State.lean ====
section
/-! DEFINITION. The state of the block (10_state.md R30 to R49), the ways a step can stop, and reset (R47, R371). -/

namespace Sys2Proof.Machine

/-- Why the machine of this model stops. The block's own faults are no stops: they are records in
STATUS (R331, R348). -/
inductive Fault where
  /-- Raised by a host access to an address outside the 256-byte window, which the spec does not say
  exists (R70, R87; assumption 9). Safe: the model stops where the block takes no part. -/
  | noSuchAddress (addr : Nat)
  /-- Raised by a host access while the platform holds its reset input asserted: the block accepts no access then,
  and R370 forbids the host to make one (assumption 16). Safe: the model stops where the spec gives no effect. -/
  | accessInReset (addr : Nat)
deriving DecidableEq, Repr

/-- Why the model gives a step no meaning. -/
inductive Refusal where
  /-- Raised by an arm of `exec` that has no meaning yet. Safe. No arm raises it now. -/
  | notModelled (mnemonic : String)
  /-- Raised by `step` in a state whose configuration breaks a constraint of R7, which says that a
  model refuses it (assumption 4). Safe: no such block exists. -/
  | illegalConfig
deriving DecidableEq, Repr

/-- A ring buffer (R36). `stop` is the spec's `end`. -/
structure Ring where
  slot : List Word
  start : Nat
  stop : Nat
deriving DecidableEq, Repr

/-- A filter (R39). -/
structure Filt where
  valid : Bool
  order : Nat
  bufB : Ring
  bufA : Ring
  bufIn : Ring
  bufOut : Ring
deriving DecidableEq, Repr

/-- The mode a controller was last commanded into (R41). -/
inductive CtrlMode where
  /-- 0: position. -/
  | pos
  /-- 1: velocity. -/
  | vel
deriving DecidableEq, Repr

/-- A controller (R41). -/
structure Ctrl where
  valid : Bool
  kp : Word
  period : Word
  targetPos : Word
  targetVel : Word
  mode : CtrlMode
  sel : SelRule
deriving DecidableEq, Repr

/-- The two sides of the quadrature decoder (R43). -/
inductive Side where
  /-- s = 0. -/
  | left
  /-- s = 1. -/
  | right
deriving DecidableEq, Repr

/-- One side of the quadrature decoder (R43). -/
structure Quad where
  aLast : Bool
  bLast : Bool
  xLast : Bool
  count : Word
  scale : Word
deriving DecidableEq, Repr

/-- A time point: coarse milliseconds and fine ticks (R45, R290). -/
structure TimePoint where
  coarse : Word
  fine : Half
deriving DecidableEq, Repr

/-- A scheduler flag (R46). -/
structure Flag where
  active : Bool
  duration : Word
  last : TimePoint
  cmd : Byte
  subcmd : Byte
deriving DecidableEq, Repr

/-- One step of an agent of R5, or a change of the platform's reset input (R370). -/
inductive Event where
  /-- HOST: `MemRead(addr, size)` (R71). -/
  | read (addr size : Nat)
  /-- HOST: `MemWrite(addr, size, v)` (R71). -/
  | write (addr size : Nat) (v : Word)
  /-- QD_EVT: one sample event (R211). -/
  | sample (side : Side) (x b : Bool)
  /-- TICK: one fine tick (R291). -/
  | tick
  /-- The platform asserts its reset input (R370, item 1). -/
  | resetAssert
  /-- The platform releases its reset input (R370, item 1). -/
  | resetRelease
deriving DecidableEq, Repr

/-- The state of the machine: the block's elements (R30), the configuration it belongs to (R7), the platform's reset
input (R370), and four fields of the model's own (`agenda`, `observed`, `readData`, `draws`). -/
structure State where
  /-- The configuration; no step changes it. -/
  cfg : Config
  arg0 : Word
  arg1 : Word
  res0 : Word
  res1 : Word
  status : Word
  /-- The host-visible ring buffers, RB[0] first. -/
  rb : List Ring
  stageB : List Word
  stageA : List Word
  /-- The filters, FILT[0] first. -/
  filt : List Filt
  /-- The controllers, CTRL[0] first. -/
  ctrl : List Ctrl
  qdLeft : Quad
  qdRight : Quad
  time : TimePoint
  /-- The scheduler flags, FLAG[0] first. -/
  flags : List Flag
  /-- The platform holds its reset input asserted: the block is in reset (R370, item 1; assumption 16). -/
  resetHeld : Bool
  /-- The model's own: the environment's coming steps, the next one first (R5, R82; assumption 1). -/
  agenda : List Event
  /-- The model's own: the observation of R17, the words the host has read from its seven registers, the first one
  first (assumption 2). -/
  observed : List Word
  /-- The model's own: what the host's latest read returned (R73, R75; assumption 2). -/
  readData : Word
  /-- The model's own: how many draws have been taken (R6; assumption 7). -/
  draws : Nat
deriving DecidableEq, Repr

/-- A ring buffer after reset, of capacity `n` (R36, R47). -/
def Ring.fresh (n : Nat) : Ring where
  slot := List.replicate n 0
  start := 0
  stop := 0

/-- A filter after reset, with buffers of capacity `n` (R39, R47). -/
def Filt.fresh (n : Nat) : Filt where
  valid := false
  order := 0
  bufB := Ring.fresh n
  bufA := Ring.fresh n
  bufIn := Ring.fresh n
  bufOut := Ring.fresh n

/-- A controller after reset (R41, column "reset"). -/
def Ctrl.fresh : Ctrl where
  valid := false
  kp := 0
  period := 0
  targetPos := 0
  targetVel := 0
  mode := .pos
  sel := .sign

/-- A side of the decoder after reset, with the levels drawn from its pins (R47, R216). -/
def Quad.fresh (scale : Word) (p : PinSample) : Quad where
  aLast := p.x ^^ p.b
  bLast := p.b
  xLast := p.x
  count := 0
  scale := scale

/-- A flag after reset: Idle, duration −1.0, zero time (R46). -/
def Flag.fresh : Flag where
  active := false
  duration := 0xBF800000
  last := ⟨0, 0⟩
  cmd := 0
  subcmd := 0

/-- Every element of the block at its reset value (R47, R371), in a configuration, with the pin draws numbered `n`
(left) and `n + 1` (right), the reset input released, and nothing yet asked of the block or read from it. -/
def State.resetOf (c : Config) (n : Nat) : State where
  cfg := c
  arg0 := 0
  arg1 := 0
  res0 := 0
  res1 := 0
  status := 0
  rb := List.replicate c.numRb (Ring.fresh c.cap)
  stageB := List.replicate (c.maxOrder + 1) 0
  stageA := List.replicate (c.maxOrder + 1) 0
  filt := List.replicate c.numFilt (Filt.fresh c.cap)
  ctrl := List.replicate c.numCtrl Ctrl.fresh
  qdLeft := Quad.fresh c.qdScaleReset (Config.pinDraw n)
  qdRight := Quad.fresh c.qdScaleReset (Config.pinDraw (n + 1))
  time := ⟨0, 0⟩
  flags := List.replicate c.numFlag Flag.fresh
  resetHeld := false
  agenda := []
  observed := []
  readData := 0
  draws := n + 2

/-- The block right after power-on reset, in the test configuration TC (R7, R47, R371), with nothing yet
asked of it (assumptions 1, 2, 3, 7). -/
def State.reset : State := State.resetOf Config.tc 0

end Sys2Proof.Machine
end

