-- ==== Sys2Proof/Machine/Flags.lean ====
section
/-! DEFINITION. The STATUS register: its fields and the error record (10_state.md R34; 60_exceptions.md R331, R332). The
block has no condition codes (R35). -/

namespace Sys2Proof.Machine

/-- The error codes a fault records (R332). -/
inductive ErrCode where
  | illegalOpcode
  | reservedField
  | badInstance
  | badSelect
  | notInit
  | badIndex
  | badOrder
  | zeroA0
  | access
deriving DecidableEq, Repr

/-- The number of an error code (R332). -/
def ErrCode.byte : ErrCode → Byte
  | .illegalOpcode => 1
  | .reservedField => 2
  | .badInstance => 3
  | .badSelect => 4
  | .notInit => 5
  | .badIndex => 6
  | .badOrder => 7
  | .zeroA0 => 8
  | .access => 9

/-- STATUS.ERR, bit 0 (R34). -/
def statusErr (w : Word) : Bool := w.getLsbD 0

/-- STATUS.MULTI, bit 1 (R34). -/
def statusMulti (w : Word) : Bool := w.getLsbD 1

/-- STATUS.CODE, bits 15:8 (R34). -/
def statusCode (w : Word) : Byte := w.extractLsb' 8 8

/-- STATUS.INFO, bits 31:24 (R34). -/
def statusInfo (w : Word) : Byte := w.extractLsb' 24 8

/-- A STATUS word from its four fields, the reserved bits 0 (R34). -/
def statusWord (info code : Byte) (multi err : Bool) : Word :=
  info ++ (0 : Byte) ++ code ++ (0 : BitVec 6) ++ BitVec.ofBool multi ++ BitVec.ofBool err

/-- The record a fault makes (R331): the first fault since the last clear sets ERR, CODE and INFO; a later
one sets only MULTI. -/
def recordFault (code info : Byte) (w : Word) : Word :=
  if statusErr w then w ||| 2
  else statusWord info code (statusMulti w) true

end Sys2Proof.Machine
end

