-- ==== Sys2Proof/Machine/Binary32.lean ====
section
/-! DEFINITION. Binary32 values, correctly rounded arithmetic and comparison (00_scope.md R10 to R15). Every
finite binary32 value is a whole number of units of 2^(-149), so a finite value is a sign and a number of
units, every operation is computed exactly on integers, and one function rounds. -/

namespace Sys2Proof.Machine

/-- The value of a binary32 word (R12): NaN, an infinity, or ±`units`·2^(-149). -/
inductive FVal where
  | nan
  | inf (neg : Bool)
  | fin (neg : Bool) (units : Nat)
deriving DecidableEq, Repr

/-- The magnitude bits `w[30:0]`. -/
def magBits (w : Word) : Nat := (w.extractLsb' 0 31).toNat

/-- The sign bit `w[31]`. -/
def signBit (w : Word) : Bool := w.getLsbD 31

/-- The units of 2^(-149) of a finite magnitude: biased exponent `m / 2^23`, fraction `m % 2^23`; an exponent
of zero is subnormal (R10, R11). -/
def magUnits (m : Nat) : Nat :=
  if m / 2 ^ 23 = 0 then m % 2 ^ 23 else (2 ^ 23 + m % 2 ^ 23) * 2 ^ (m / 2 ^ 23 - 1)

/-- The magnitude of infinity: exponent 255, fraction 0. -/
def infMag : Nat := 255 * 2 ^ 23

/-- The value of a word (R10, R12). -/
def val (w : Word) : FVal :=
  if magBits w < infMag then .fin (signBit w) (magUnits (magBits w))
  else if magBits w = infMag then .inf (signBit w)
  else .nan

/-- Whether a word is a NaN pattern: exponent 0xFF, fraction not zero (R15). -/
def isNaN (w : Word) : Bool := decide (infMag < magBits w)

/-- The NaN pattern a draw stands for: its sign and fraction, with a fraction of zero replaced, so that the
result is a NaN and every NaN word is the pattern of some draw, of itself (R15). -/
def nanOf (d : Word) : Word :=
  if d.extractLsb' 0 23 = 0 then d ||| 0x7F800001 else d ||| 0x7F800000

/-- `ISZERO(w)`: +0 or −0 (R13). -/
def isZero (w : Word) : Bool := magBits w == 0

/-- The magnitude, as bits `w[30:0]`, nearest to `num / den` units, ties to even, infinity on overflow
(R11). Below 2^24 units the spacing is one unit; above, it doubles with each further bit. -/
def roundMag (num den : Nat) : Nat :=
  let k := Nat.log2 (num / den) - 23
  let step := den * 2 ^ k
  let q := num / step
  let r := num % step
  let up : Bool := decide (step < 2 * r) || (2 * r == step && q % 2 == 1)
  min (k * 2 ^ 23 + (if up then q + 1 else q)) infMag

/-- A word from its sign and magnitude. -/
def ofMag (neg : Bool) (mag : Nat) : Word := BitVec.ofNat 32 (mag + if neg then 2 ^ 31 else 0)

/-- The signed units of a finite value. -/
def signedUnits (neg : Bool) (u : Nat) : Int := if neg then -(u : Int) else u

/-- The value with its sign turned. -/
def FVal.neg : FVal → FVal
  | .nan => .nan
  | .inf s => .inf (!s)
  | .fin s u => .fin (!s) u

/-- The rounded sum of two values; `d` is the NaN draw. An exact zero sum is +0 unless both terms are −0
(R11; assumption 8). -/
def addVal (d : Word) : FVal → FVal → Word
  | .nan, _ => nanOf d
  | _, .nan => nanOf d
  | .inf a, .inf b => if a = b then ofMag a infMag else nanOf d
  | .inf a, .fin _ _ => ofMag a infMag
  | .fin _ _, .inf b => ofMag b infMag
  | .fin a u, .fin b v =>
    let sum := signedUnits a u + signedUnits b v
    ofMag (if sum = 0 then a && b else decide (sum < 0)) (roundMag sum.natAbs 1)

/-- `FADD(p, q)` (R11). -/
def fadd (d p q : Word) : Word := addVal d (val p) (val q)

/-- `FSUB(p, q)` (R11). -/
def fsub (d p q : Word) : Word := addVal d (val p) (val q).neg

/-- The rounded product of two values; `d` is the NaN draw (R11). -/
def mulVal (d : Word) : FVal → FVal → Word
  | .nan, _ => nanOf d
  | _, .nan => nanOf d
  | .inf a, .inf b => ofMag (a ^^ b) infMag
  | .inf a, .fin b v => if v = 0 then nanOf d else ofMag (a ^^ b) infMag
  | .fin a u, .inf b => if u = 0 then nanOf d else ofMag (a ^^ b) infMag
  | .fin a u, .fin b v => ofMag (a ^^ b) (roundMag (u * v) (2 ^ 149))

/-- `FMUL(p, q)` (R11). -/
def fmul (d p q : Word) : Word := mulVal d (val p) (val q)

/-- The rounded quotient of two values; `d` is the NaN draw. A nonzero finite value over zero is an infinity;
0/0 and ∞/∞ are NaN (R11). -/
def divVal (d : Word) : FVal → FVal → Word
  | .nan, _ => nanOf d
  | _, .nan => nanOf d
  | .inf _, .inf _ => nanOf d
  | .inf a, .fin b _ => ofMag (a ^^ b) infMag
  | .fin a _, .inf b => ofMag (a ^^ b) 0
  | .fin a u, .fin b v =>
    if v = 0 then (if u = 0 then nanOf d else ofMag (a ^^ b) infMag)
    else ofMag (a ^^ b) (roundMag (u * 2 ^ 149) v)

/-- `FDIV(p, q)` (R11). -/
def fdiv (d p q : Word) : Word := divVal d (val p) (val q)

/-- `I2F(n)`: the nearest binary32 to a signed integer (R11). -/
def i2f (n : Int) : Word := ofMag (decide (n < 0)) (roundMag (n.natAbs * 2 ^ 149) 1)

/-- Strict order of values; false with a NaN on either side (R12). -/
def gtVal : FVal → FVal → Bool
  | .nan, _ => false
  | _, .nan => false
  | .inf a, .inf b => !a && b
  | .inf a, .fin _ _ => !a
  | .fin _ _, .inf b => b
  | .fin a u, .fin b v => decide (signedUnits b v < signedUnits a u)

/-- `FGT(p, q)` (R12). -/
def fgt (p q : Word) : Bool := gtVal (val p) (val q)

/-- `FLE(p, q)` (R12). -/
def fle (p q : Word) : Bool := !isNaN p && !isNaN q && !fgt p q

end Sys2Proof.Machine
end

