-- ==== Sys2Proof/Machine/Operands.lean ====
section
/-! DEFINITION. What a command's operands name: instances, sides, selectors, and the draws it may take (R6, R101, R102, R106). -/

namespace Sys2Proof.Machine

/-- A configuration that meets every constraint of R7. -/
def configLegal (c : Config) : Bool :=
  decide (2 ≤ c.rbLog2 ∧ c.rbLog2 ≤ 8) && decide (1 ≤ c.numRb ∧ c.numRb ≤ 15) &&
  decide (c.numCtrl ≤ c.numFilt ∧ c.numFilt ≤ 15) && decide (1 ≤ c.numCtrl ∧ c.numCtrl ≤ 15) &&
  decide (1 ≤ c.numFlag ∧ c.numFlag ≤ 15) && decide (1 ≤ c.ticksPerMs ∧ c.ticksPerMs ≤ 65535) &&
  decide (c.base % 256 = 0)

/-- The side an instance number names, if it is below 2 (R102, R106). -/
def sideOf : Nat → Option Side
  | 0 => some .left
  | 1 => some .right
  | _ => none

/-- Ring buffer `RB[r]`, for `r < NUM_RB`. -/
def State.ring (s : State) (r : Nat) : Ring := s.rb.getD r (Ring.fresh s.cfg.cap)

/-- Filter `FILT[f]`, for `f < NUM_FILT`. -/
def State.filter (s : State) (f : Nat) : Filt := s.filt.getD f (Filt.fresh s.cfg.cap)

/-- Controller `CTRL[c]`, for `c < NUM_CTRL`. -/
def State.controller (s : State) (c : Nat) : Ctrl := s.ctrl.getD c Ctrl.fresh

/-- Flag `FLAG[g]`, for `g < NUM_FLAG`. -/
def State.flag (s : State) (g : Nat) : Flag := s.flags.getD g Flag.fresh

/-- Decoder side `QD[s]`. -/
def State.quad (s : State) : Side → Quad
  | .left => s.qdLeft
  | .right => s.qdRight

/-- Staged numerator coefficient `STAGE_B[i]`. -/
def State.stagedB (s : State) (i : Nat) : Word := s.stageB.getD i 0

/-- Staged denominator coefficient `STAGE_A[i]`. -/
def State.stagedA (s : State) (i : Nat) : Word := s.stageA.getD i 0

/-- The raw bits of the `k`-th NaN draw a command may take in this state (R15; assumption 6). -/
def State.nan (s : State) (k : Nat) : Word := Config.nanDraw (s.draws + k)

end Sys2Proof.Machine
end

