-- ==== Sys2Proof/Machine/Ops.lean ====
section
/-! DEFINITION. The operations the commands and events share: writing an element, recording a fault and clearing the record,
the reset procedure, and the primitives of the five units (R140 to R147, R170 to R176, R211, R215, R216, R250, R251,
R291 to R293). -/

namespace Sys2Proof.Machine

/-! ### Writing one element of the state -/

/-- `RB[r] <- B`. -/
def State.setRing (s : State) (r : Nat) (B : Ring) : State := { s with rb := s.rb.set r B }

/-- `FILT[f] <- F`. -/
def State.setFilter (s : State) (f : Nat) (F : Filt) : State := { s with filt := s.filt.set f F }

/-- `CTRL[c] <- C`. -/
def State.setController (s : State) (c : Nat) (C : Ctrl) : State := { s with ctrl := s.ctrl.set c C }

/-- `FLAG[g] <- G`. -/
def State.setFlag (s : State) (g : Nat) (G : Flag) : State := { s with flags := s.flags.set g G }

/-- `QD[s] <- Q`. -/
def State.setQuad (s : State) (sd : Side) (Q : Quad) : State :=
  match sd with
  | .left => { s with qdLeft := Q }
  | .right => { s with qdRight := Q }

/-- `RES0 <- v` (R108). -/
def State.setRes0 (s : State) (v : Word) : State := { s with res0 := v }

/-- `RES1 <- v` (R108). -/
def State.setRes1 (s : State) (v : Word) : State := { s with res1 := v }

/-- `k` more draws have been taken (R6; assumption 7). -/
def State.spend (s : State) (k : Nat) : State := { s with draws := s.draws + k }

/-- One staged coefficient (R180). -/
def State.stage (s : State) (bank : Bank) (i : Nat) (v : Word) : State :=
  match bank with
  | .numer => { s with stageB := s.stageB.set i v }
  | .denom => { s with stageA := s.stageA.set i v }

/-! ### Taking a fault, and recovering from one -/

/-- A fault: its record in STATUS, and no other effect (R331, R335). This is the block's one exception entry;
no control flow changes (R339). -/
def State.raise (s : State) (code : ErrCode) (info : Byte) : State :=
  { s with status := recordFault code.byte info s.status }

/-- A command that ends in a fault: the machine goes on, and INFO is the opcode (R331, R348). -/
def fail (code : ErrCode) (opc : Byte) (s : State) : Host.Outcome State Fault Refusal :=
  .next (s.raise code opc)

/-- Recovery from a fault: a STATUS write clears the whole record if its bit 0 is set and changes nothing
otherwise (R77, R340). -/
def State.clearFaults (s : State) (w : Word) : State :=
  if w.getLsbD 0 then { s with status := 0 } else s

/-- The error code of a word that is no command (R104, R105). -/
def codeOf : DecodeError → ErrCode
  | .illegalOpcode => .illegalOpcode
  | .reservedField => .reservedField

/-- The fault of a word that is no command (R100, steps 1 and 2). -/
def rejectWord (e : DecodeError) (w : Word) (s : State) : Host.Outcome State Fault Refusal :=
  fail (codeOf e) (opcOf w) s

/-- The reset procedure (R371). The configuration, the reset input, the environment's coming steps, what the host has
read and the count of draws are not the block's elements and stay (assumption 7). -/
def State.applyReset (s : State) : State :=
  { State.resetOf s.cfg s.draws with
    resetHeld := s.resetHeld, agenda := s.agenda, observed := s.observed, readData := s.readData }

/-- The platform asserts its reset input: the block is in reset (R370). -/
def State.holdReset (s : State) : State := { s with resetHeld := true }

/-- The platform releases its reset input: on release the reset procedure has been applied (R370, R371). Releasing an
input that is not asserted is no change. -/
def State.releaseReset (s : State) : State :=
  if s.resetHeld then { s.applyReset with resetHeld := false } else s

/-! ### Ring primitives; `n` is the capacity N -/

/-- `rb_length(B)` (R140). -/
def Ring.length (n : Nat) (B : Ring) : Nat := (B.stop + n - B.start) % n

/-- `rb_empty(B)` (R140). -/
def Ring.isEmpty (n : Nat) (B : Ring) : Bool := B.length n == 0

/-- `rb_push_back(B, v)` (R142). -/
def Ring.pushBack (n : Nat) (B : Ring) (v : Word) : Ring :=
  let stop := (B.stop + 1) % n
  { slot := B.slot.set B.stop v
    start := if stop = B.start then (B.start + 1) % n else B.start
    stop := stop }

/-- `rb_push_front(B, v)` (R143). -/
def Ring.pushFront (n : Nat) (B : Ring) (v : Word) : Ring :=
  let start := (B.start + n - 1) % n
  { slot := B.slot.set start v
    start := start
    stop := if start = B.stop then (B.stop + n - 1) % n else B.stop }

/-- `rb_pop_back(B)`: the word and the buffer after (R144). -/
def Ring.popBack (n : Nat) (B : Ring) : Word × Ring :=
  if B.isEmpty n then (0, B)
  else
    let stop := (B.stop + n - 1) % n
    (B.slot.getD stop 0, { B with stop := stop })

/-- `rb_pop_front(B)`: the word and the buffer after (R145). -/
def Ring.popFront (n : Nat) (B : Ring) : Word × Ring :=
  if B.isEmpty n then (0, B)
  else (B.slot.getD B.start 0, { B with start := (B.start + 1) % n })

/-- `rb_get(B, i)` (R146). -/
def Ring.get (n : Nat) (B : Ring) (i : Nat) : Word := B.slot.getD ((B.start + i) % n) 0

/-- `rb_set(B, i, v)` (R147). -/
def Ring.put (n : Nat) (B : Ring) (i : Nat) (v : Word) : Ring :=
  { B with slot := B.slot.set ((B.start + i) % n) v }

/-! ### Filter primitives -/

/-- `filt_shift(B, v)` (R170). -/
def filtShift (n : Nat) (B : Ring) (v : Word) : Ring := ((B.pushFront n v).popBack n).2

/-- The first `k` words of a function pushed to the back of an empty buffer, in ascending order (R141, R171). -/
def filled (n : Nat) (v : Nat → Word) : Nat → Ring
  | 0 => Ring.fresh n
  | k + 1 => (filled n v k).pushBack n (v k)

/-- `filt_init(F, o)`: the filter made from the staging bank (R171). -/
def filtInit (s : State) (o : Nat) : Filt where
  valid := true
  order := o
  bufB := filled s.cfg.cap s.stagedB (o + 1)
  bufA := filled s.cfg.cap s.stagedA (o + 1)
  bufIn := filled s.cfg.cap (fun _ => 0) (o + 1)
  bufOut := filled s.cfg.cap (fun _ => 0) (o + 1)

/-- The numerator sum over `i < k`, ascending, each product rounded before it is added (R172, R173). Operation
numbers of the draws: product `i` is `2i`, its addition `2i + 1`. -/
def sumB (nan : Nat → Word) (b x : Nat → Word) : Nat → Word
  | 0 => 0
  | k + 1 => fadd (nan (2 * k + 1)) (sumB nan b x k) (fmul (nan (2 * k)) (b k) (x k))

/-- The denominator terms `i = 1..k` subtracted from `t`, ascending (R172, R173). -/
def subA (nan : Nat → Word) (a y : Nat → Word) (t : Word) : Nat → Word
  | 0 => t
  | k + 1 => fsub (nan (2 * k + 1)) (subA nan a y t k) (fmul (nan (2 * k)) (a (k + 1)) (y k))

/-- The draws `filt_value` may take, one for each rounded operation (R15, R172). -/
def valueDraws (order : Nat) : Nat := 4 * order + 3

/-- The output of `filt_value`: the difference equation over an input history that holds the new sample and an
output history that does not yet hold the new output (R172, R173). -/
def filtOutput (n : Nat) (nan : Nat → Word) (F : Filt) (bufIn : Ring) : Word :=
  let t := sumB nan (F.bufB.get n) (bufIn.get n) (F.order + 1)
  let t := subA (fun k => nan (2 * (F.order + 1) + k)) (F.bufA.get n) (F.bufOut.get n) t F.order
  fdiv (nan (4 * F.order + 2)) t (F.bufA.get n 0)

/-- `filt_value(F, x)`: the output and the filter after (R172). -/
def filtValue (n : Nat) (nan : Nat → Word) (F : Filt) (x : Word) : Word × Filt :=
  let bufIn := filtShift n F.bufIn x
  let y := filtOutput n nan F bufIn
  (y, { F with bufIn := bufIn, bufOut := filtShift n F.bufOut y })

/-- `filt_last(F)` (R174). -/
def filtLast (n : Nat) (F : Filt) : Word := F.bufOut.get n 0

/-- Live elements `0..k−1` of a buffer replaced, in ascending order, each from its old value (R175, R176). -/
def mapLive (n : Nat) (f : Nat → Word → Word) (B : Ring) : Nat → Ring
  | 0 => B
  | k + 1 =>
    let B' := mapLive n f B k
    B'.put n k (f k (B'.get n k))

/-- `filt_setto(F, v)` (R175). -/
def filtSetto (n : Nat) (F : Filt) (v : Word) : Filt :=
  { F with
    bufIn := mapLive n (fun _ _ => v) F.bufIn (F.order + 1)
    bufOut := mapLive n (fun _ _ => v) F.bufOut (F.order + 1) }

/-- The draws `filt_shiftby` may take (R15, R176). -/
def shiftbyDraws (order : Nat) : Nat := 2 * (order + 1)

/-- `filt_shiftby(F, d)` (R176). Element `i` of the input history takes draw `2i`, of the output history `2i + 1`. -/
def filtShiftby (n : Nat) (nan : Nat → Word) (F : Filt) (d : Word) : Filt :=
  { F with
    bufIn := mapLive n (fun i w => fadd (nan (2 * i)) w d) F.bufIn (F.order + 1)
    bufOut := mapLive n (fun i w => fadd (nan (2 * i + 1)) w d) F.bufOut (F.order + 1) }

/-! ### Controller primitives -/

/-- `ctrl_velocity_active(C)` (R250). -/
def velocityActive (C : Ctrl) : Bool :=
  match C.sel with
  | .sign => fgt C.targetVel 0
  | .mode => decide (C.mode = .vel)

/-- The draws `ctrl_update` may take after those of its filter (R251). -/
def updateDraws (order : Nat) : Nat := valueDraws order + 4

/-- The active target of `ctrl_update`, step 2 (R251). -/
def activeTarget (nan : Nat → Word) (C : Ctrl) (m dt : Word) : Word :=
  if velocityActive C then fadd (nan 1) m (fmul (nan 0) dt C.targetVel) else C.targetPos

/-- The command of `ctrl_update`, step 3: `Kp × (target − filtered)` (R251). -/
def ctrlCommand (nan : Nat → Word) (C : Ctrl) (m dt filtered : Word) : Word :=
  fmul (nan 3) C.kp (fsub (nan 2) (activeTarget nan C m dt) filtered)

/-! ### Quadrature primitives -/

/-- A bit as an integer. -/
def bitInt (b : Bool) : Int := if b then 1 else 0

/-- The count's change at an edge, `(a ⊕ B_last) − (A_last ⊕ b)` (R211). -/
def edgeDelta (q : Quad) (a b : Bool) : Int := bitInt (a ^^ q.bLast) - bitInt (q.aLast ^^ b)

/-- The three saved levels of a sample (R210). -/
def Quad.save (q : Quad) (x b : Bool) : Quad := { q with aLast := x ^^ b, bLast := b, xLast := x }

/-- `qd_sample`, on one side; `saveNoEdge` is QD_SAVE_ON_NOEDGE (R211, R214). -/
def qdSample (saveNoEdge : Bool) (q : Quad) (x b : Bool) : Quad :=
  if x ≠ q.xLast then
    { q.save x b with count := BitVec.ofInt 32 (q.count.toInt + edgeDelta q (x ^^ b) b) }
  else if saveNoEdge then q.save x b
  else q

/-- `qd_sample(s, x, b)` as a step of the block (R211). -/
def State.sampleSide (s : State) (sd : Side) (x b : Bool) : State :=
  s.setQuad sd (qdSample s.cfg.qdSaveOnNoEdge (s.quad sd) x b)

/-- `qd_init(s)`: the saved levels from the next pin draw, the count zero, SCALE kept (R216). -/
def State.initSide (s : State) (sd : Side) : State :=
  let p := Config.pinDraw s.draws
  (s.setQuad sd { (s.quad sd).save p.x p.b with count := 0 }).spend 1

/-- `qd_angle(s)` (R215). -/
def qdAngle (nan : Word) (q : Quad) : Word := fmul nan (i2f q.count.toInt) q.scale

/-! ### Time primitives; `F` is TICKS_PER_MS -/

/-- `tick()` on the time point (R291). -/
def TimePoint.tick (F : Nat) (t : TimePoint) : TimePoint :=
  if t.fine.toNat + 1 = F then ⟨t.coarse + 1, 0⟩ else ⟨t.coarse, t.fine + 1⟩

/-- `elapsed_ticks(t)` at the time `now` (R292). -/
def elapsedTicks (F : Nat) (now t : TimePoint) : Int :=
  ((now.coarse - t.coarse).toNat : Int) * F + ((now.fine.toNat : Int) - t.fine.toNat)

/-- Whether `E` ticks are at least a duration in seconds, compared exactly (R293). -/
def reached (F : Nat) (E : Int) : FVal → Bool
  | .nan => false
  | .inf neg => neg
  | .fin neg u => decide (signedUnits neg u * (1000 * F) ≤ E * 2 ^ 149)

/-- `flag_execute(g)` at the time `now` (R293). -/
def flagExecute (F : Nat) (now : TimePoint) (G : Flag) : Bool :=
  G.active && reached F (elapsedTicks F now G.last) (val G.duration)

end Sys2Proof.Machine
end

