-- ==== Sys2Proof/Machine/Bus.lean ====
section
/-! DEFINITION. The register window and the events of the environment (20_memory.md R70 to R79; R211, R291, R370). -/

namespace Sys2Proof.Machine

/-- The registers of the window (R72). -/
inductive Reg where
  | cmd
  | arg0
  | arg1
  | res0
  | res1
  | status
  | param0
  | param1
deriving DecidableEq, Repr

/-- The register a well-formed access reaches; none for a size other than 4, a misaligned offset and a
reserved offset (R71, R72, R73). -/
def regAt (off size : Nat) : Option Reg :=
  if size = 4 then
    match off with
    | 0x00 => some .cmd
    | 0x04 => some .arg0
    | 0x08 => some .arg1
    | 0x0C => some .res0
    | 0x10 => some .res1
    | 0x14 => some .status
    | 0x18 => some .param0
    | 0x1C => some .param1
    | _ => none
  else none

/-- PARAM0 (R78). -/
def param0Word (c : Config) : Word :=
  (0 : BitVec 11) ++ BitVec.ofBool c.qdSaveOnNoEdge ++ BitVec.ofNat 4 c.numFlag ++ BitVec.ofNat 4 c.numCtrl ++
    BitVec.ofNat 4 c.numFilt ++ BitVec.ofNat 4 c.numRb ++ BitVec.ofNat 4 c.rbLog2

/-- PARAM1 (R78). -/
def param1Word (c : Config) : Word := (0 : Half) ++ BitVec.ofNat 16 c.ticksPerMs

/-- What a read of a register returns (R72, R75). -/
def State.readReg (s : State) : Reg → Word
  | .cmd => 0
  | .arg0 => s.arg0
  | .arg1 => s.arg1
  | .res0 => s.res0
  | .res1 => s.res1
  | .status => s.status
  | .param0 => param0Word s.cfg
  | .param1 => param1Word s.cfg

/-- The byte of the window at an offset, little-endian (R74); a reserved word reads 0 (R73). Only a host that
views the window byte by byte asks for it: a narrow access itself faults. -/
def State.windowByte (s : State) (off : Nat) : Byte :=
  match regAt (off / 4 * 4) 4 with
  | some reg => (s.readReg reg).extractLsb' (8 * (off % 4)) 8
  | none => 0

/-- Whether an address lies in the window (R70, R71). -/
def inWindow (c : Config) (addr : Nat) : Bool := decide (c.base ≤ addr ∧ addr < c.base + 256)

/-- Whether R17 counts a read of the register in the observation: its seven registers, so not CMD. -/
def Reg.observable : Reg → Bool
  | .cmd => false
  | .arg0 => true
  | .arg1 => true
  | .res0 => true
  | .res1 => true
  | .status => true
  | .param0 => true
  | .param1 => true

/-- A read returns this word to the host (R73, R75; assumption 2). -/
def State.deliver (s : State) (v : Word) : State := { s with readData := v }

/-- The word joins the observation (R17; assumption 2). -/
def State.observe (s : State) (v : Word) : State := { s with observed := s.observed ++ [v] }

/-- A read of a register: its value is returned, and observed if the register is one of R17's (R17, R75). -/
def State.readOut (s : State) (reg : Reg) : State :=
  let v := s.readReg reg
  if reg.observable then (s.deliver v).observe v else s.deliver v

/-- An access fault: code ACCESS, INFO the low byte of the offset (R73). -/
def State.accessFault (s : State) (off : Nat) : State := s.raise .access (BitVec.ofNat 8 off)

/-- `MemRead(addr, size)`: the register's value, or 0 with an access fault (R72, R73, R75). -/
def hostRead (addr size : Nat) (s : State) : Host.Outcome State Fault Refusal :=
  if inWindow s.cfg addr then
    match regAt (addr - s.cfg.base) size with
    | some reg => .next (s.readOut reg)
    | none => .next ((s.accessFault (addr - s.cfg.base)).deliver 0)
  else .fault (.noSuchAddress addr)

/-- `MemWrite(addr, size, v)`: a command for CMD, a store for ARG0 and ARG1, the record's clearing for STATUS,
and an access fault for every other place (R72, R73, R76, R77, R79). `run` executes a command word. -/
def hostWrite (run : Word → State → Host.Outcome State Fault Refusal) (addr size : Nat) (v : Word) (s : State) :
    Host.Outcome State Fault Refusal :=
  if inWindow s.cfg addr then
    match regAt (addr - s.cfg.base) size with
    | some .cmd => run v s
    | some .arg0 => .next { s with arg0 := v }
    | some .arg1 => .next { s with arg1 := v }
    | some .status => .next (s.clearFaults v)
    | some .res0 => .next (s.accessFault (addr - s.cfg.base))
    | some .res1 => .next (s.accessFault (addr - s.cfg.base))
    | some .param0 => .next (s.accessFault (addr - s.cfg.base))
    | some .param1 => .next (s.accessFault (addr - s.cfg.base))
    | none => .next (s.accessFault (addr - s.cfg.base))
  else .fault (.noSuchAddress addr)

/-- A host access: none is accepted while the block is in reset (R370; assumption 16). -/
def acceptAccess (addr : Nat) (s : State) (k : Host.Outcome State Fault Refusal) : Host.Outcome State Fault Refusal :=
  if s.resetHeld then .fault (.accessInReset addr) else k

/-- A step of an environment agent that takes the block to `t`: none reaches a block in reset (R370, R372;
assumption 16). -/
def agentStep (s t : State) : Host.Outcome State Fault Refusal := .next (if s.resetHeld then s else t)

/-- One step of an agent, or a change of the platform's reset input (R5, R80, R370). -/
def perform (run : Word → State → Host.Outcome State Fault Refusal) (e : Event) (s : State) :
    Host.Outcome State Fault Refusal :=
  match e with
  | .read addr size => acceptAccess addr s (hostRead addr size s)
  | .write addr size v => acceptAccess addr s (hostWrite run addr size v s)
  | .sample sd x b => agentStep s (s.sampleSide sd x b)
  | .tick => agentStep s { s with time := s.time.tick s.cfg.ticksPerMs }
  | .resetAssert => .next s.holdReset
  | .resetRelease => .next s.releaseReset

/-- The event of a host's command: a well-formed write of a word to CMD (R76). -/
def commandEvent (c : Config) (w : Word) : Event := .write c.base 4 w

end Sys2Proof.Machine
end

