-- ==== Sys2Proof/Machine/Filter.lean ====
section
/-! DEFINITION. The filter commands (42_iir_filter.md, R180 to R186). -/

namespace Sys2Proof.Machine

/-- A command on `FILT[f]`: BAD_INSTANCE unless `f < NUM_FILT` (R106, R334). -/
def onFilter (opc : Byte) (f : Nat) (s : State)
    (k : Host.Outcome State Fault Refusal) : Host.Outcome State Fault Refusal :=
  if f < s.cfg.numFilt then k else fail .badInstance opc s

/-- An operating command on `FILT[f]`: BAD_INSTANCE, then NOT_INIT unless the filter is valid (R334). -/
def onValidFilter (opc : Byte) (f : Nat) (s : State)
    (k : Host.Outcome State Fault Refusal) : Host.Outcome State Fault Refusal :=
  onFilter opc f s (if (s.filter f).valid then k else fail .notInit opc s)

/-- The order and `a_0` checks of FILT_INIT and CTRL_INIT: BAD_ORDER, then ZERO_A0 (R181, R260, R334). -/
def ifInitable (opc : Byte) (o : Nat) (s : State)
    (k : Host.Outcome State Fault Refusal) : Host.Outcome State Fault Refusal :=
  if s.cfg.maxOrder < o then fail .badOrder opc s
  else if isZero (s.stagedA 0) then fail .zeroA0 opc s
  else k

/-- COEF_WR (R180). -/
def execCoefWr (bank : Bank) (i : Nat) (s : State) : Host.Outcome State Fault Refusal :=
  if s.cfg.maxOrder < i then fail .badIndex 0x20 s else .next (s.stage bank i s.arg0)

/-- FILT_INIT (R181). -/
def execFiltInit (f o : Nat) (s : State) : Host.Outcome State Fault Refusal :=
  onFilter 0x21 f s (ifInitable 0x21 o s (.next (s.setFilter f (filtInit s o))))

/-- FILT_VALUE (R182). -/
def execFiltValue (f : Nat) (s : State) : Host.Outcome State Fault Refusal :=
  let F := s.filter f
  let p := filtValue s.cfg.cap s.nan F s.arg0
  onValidFilter 0x22 f s (.next (((s.setFilter f p.2).setRes0 p.1).spend (valueDraws F.order)))

/-- FILT_LAST (R183). -/
def execFiltLast (f : Nat) (s : State) : Host.Outcome State Fault Refusal :=
  onValidFilter 0x23 f s (.next (s.setRes0 (filtLast s.cfg.cap (s.filter f))))

/-- FILT_SETTO (R184). -/
def execFiltSetto (f : Nat) (s : State) : Host.Outcome State Fault Refusal :=
  onValidFilter 0x24 f s (.next (s.setFilter f (filtSetto s.cfg.cap (s.filter f) s.arg0)))

/-- FILT_SHIFTBY (R185). -/
def execFiltShiftby (f : Nat) (s : State) : Host.Outcome State Fault Refusal :=
  let F := s.filter f
  onValidFilter 0x25 f s
    (.next ((s.setFilter f (filtShiftby s.cfg.cap s.nan F s.arg0)).spend (shiftbyDraws F.order)))

/-- The buffer a selector 0 to 3 of FILT_READ names: B, A, IN, OUT (R186). -/
def Filt.buffer (F : Filt) : Nat → Ring
  | 0 => F.bufB
  | 1 => F.bufA
  | 2 => F.bufIn
  | _ => F.bufOut

/-- The CFG word of a filter: bit 8 `valid`, bits 7:0 `order` (R186). -/
def Filt.cfgWord (F : Filt) : Word :=
  (0 : BitVec 23) ++ BitVec.ofBool F.valid ++ BitVec.ofNat 8 F.order

/-- FILT_READ (R186): BAD_INSTANCE, BAD_SELECT, NOT_INIT, BAD_INDEX in that order (R334). -/
def execFiltRead (f i sel : Nat) (s : State) : Host.Outcome State Fault Refusal :=
  let F := s.filter f
  onFilter 0x26 f s
    (if 5 ≤ sel then fail .badSelect 0x26 s
     else if sel = 4 then
       (if i = 0 then .next (s.setRes0 F.cfgWord) else fail .badIndex 0x26 s)
     else if !F.valid then fail .notInit 0x26 s
     else if F.order < i then fail .badIndex 0x26 s
     else .next (s.setRes0 ((F.buffer sel).get s.cfg.cap i)))

end Sys2Proof.Machine
end

