-- ==== Sys2Proof/Machine/Controller.lean ====
section
/-! DEFINITION. The motion-controller commands (44_motion_controller.md, R260 to R267). -/

namespace Sys2Proof.Machine

/-- A command on `CTRL[c]`: BAD_INSTANCE unless `c < NUM_CTRL` (R106, R334). -/
def onController (opc : Byte) (c : Nat) (s : State)
    (k : Host.Outcome State Fault Refusal) : Host.Outcome State Fault Refusal :=
  if c < s.cfg.numCtrl then k else fail .badInstance opc s

/-- An operating command on `CTRL[c]`: BAD_INSTANCE, then NOT_INIT unless the controller is valid (R334). -/
def onValidController (opc : Byte) (c : Nat) (s : State)
    (k : Host.Outcome State Fault Refusal) : Host.Outcome State Fault Refusal :=
  onController opc c s (if (s.controller c).valid then k else fail .notInit opc s)

/-- A controller right after CTRL_INIT (R260). -/
def Ctrl.init (kp period : Word) (m : SelRule) : Ctrl where
  valid := true
  kp := kp
  period := period
  targetPos := 0
  targetVel := 0
  mode := .pos
  sel := m

/-- CTRL_INIT (R260). -/
def execCtrlInit (c o : Nat) (m : SelRule) (s : State) : Host.Outcome State Fault Refusal :=
  onController 0x30 c s (ifInitable 0x30 o s
    (.next ((s.setFilter c (filtInit s o)).setController c (Ctrl.init s.arg0 s.arg1 m))))

/-- CTRL_SET_POS (R252, R261). -/
def execCtrlSetPos (c : Nat) (s : State) : Host.Outcome State Fault Refusal :=
  let C := s.controller c
  onValidController 0x31 c s
    (.next ((s.setController c
      { C with targetVel := 0, targetPos := fmul (s.nan 0) s.arg0 C.period, mode := .pos }).spend 1))

/-- CTRL_SET_VEL (R262). -/
def execCtrlSetVel (c : Nat) (s : State) : Host.Outcome State Fault Refusal :=
  onValidController 0x32 c s
    (.next (s.setController c { s.controller c with targetVel := s.arg0, mode := .vel }))

/-- CTRL_UPDATE (R251, R263): the filter advances on the measurement, then the command is computed. -/
def execCtrlUpdate (c : Nat) (s : State) : Host.Outcome State Fault Refusal :=
  let F := s.filter c
  let p := filtValue s.cfg.cap s.nan F s.arg0
  let cmd := ctrlCommand (fun k => s.nan (valueDraws F.order + k)) (s.controller c) s.arg0 s.arg1 p.1
  onValidController 0x33 c s
    (.next ((((s.setFilter c p.2).setRes0 cmd).setRes1 p.1).spend (updateDraws F.order)))

/-- CTRL_LAST (R264). -/
def execCtrlLast (c : Nat) (s : State) : Host.Outcome State Fault Refusal :=
  onValidController 0x34 c s (.next (s.setRes0 (filtLast s.cfg.cap (s.filter c))))

/-- CTRL_SETTO (R265). -/
def execCtrlSetto (c : Nat) (s : State) : Host.Outcome State Fault Refusal :=
  onValidController 0x35 c s (.next (s.setFilter c (filtSetto s.cfg.cap (s.filter c) s.arg0)))

/-- CTRL_SHIFTBY (R266). -/
def execCtrlShiftby (c : Nat) (s : State) : Host.Outcome State Fault Refusal :=
  let F := s.filter c
  onValidController 0x36 c s
    (.next ((s.setFilter c (filtShiftby s.cfg.cap s.nan F s.arg0)).spend (shiftbyDraws F.order)))

/-- The CFG word of a controller: bit 2 `sel`, bit 1 `mode`, bit 0 `valid` (R267). -/
def Ctrl.cfgWord (C : Ctrl) : Word :=
  (0 : BitVec 29) ++ BitVec.ofBool (decide (C.sel = .mode)) ++ BitVec.ofBool (decide (C.mode = .vel)) ++
    BitVec.ofBool C.valid

/-- CTRL_READ (R267): BAD_INSTANCE, then BAD_SELECT (R334). It never raises NOT_INIT. -/
def execCtrlRead (c sel : Nat) (s : State) : Host.Outcome State Fault Refusal :=
  let C := s.controller c
  onController 0x37 c s
    (match sel with
     | 0 => .next (s.setRes0 C.kp)
     | 1 => .next (s.setRes0 C.period)
     | 2 => .next (s.setRes0 C.targetPos)
     | 3 => .next (s.setRes0 C.targetVel)
     | 4 => .next (s.setRes0 C.cfgWord)
     | _ => fail .badSelect 0x37 s)

end Sys2Proof.Machine
end

