-- ==== Sys2Proof/Machine/Quadrature.lean ====
section
/-! DEFINITION. The quadrature-decoder commands (43_quadrature.md, R220 to R226). -/

namespace Sys2Proof.Machine

/-- A command on `QD[n]`: BAD_INSTANCE unless `n < 2` (R106, R334). -/
def onSide (opc : Byte) (n : Nat) (s : State)
    (k : Side → Host.Outcome State Fault Refusal) : Host.Outcome State Fault Refusal :=
  match sideOf n with
  | some sd => k sd
  | none => fail .badInstance opc s

/-- QD_INIT (R220). -/
def execQdInit (n : Nat) (s : State) : Host.Outcome State Fault Refusal :=
  onSide 0x40 n s fun sd => .next (s.initSide sd)

/-- QD_READ (R221). -/
def execQdRead (n : Nat) (s : State) : Host.Outcome State Fault Refusal :=
  onSide 0x41 n s fun sd => .next (s.setRes0 (s.quad sd).count)

/-- QD_READ_BOTH (R222). -/
def execQdReadBoth (s : State) : Host.Outcome State Fault Refusal :=
  .next ((s.setRes0 s.qdLeft.count).setRes1 s.qdRight.count)

/-- QD_ANGLE (R223). -/
def execQdAngle (n : Nat) (s : State) : Host.Outcome State Fault Refusal :=
  onSide 0x43 n s fun sd => .next ((s.setRes0 (qdAngle (s.nan 0) (s.quad sd))).spend 1)

/-- QD_SET_SCALE (R224). -/
def execQdSetScale (n : Nat) (s : State) : Host.Outcome State Fault Refusal :=
  onSide 0x44 n s fun sd => .next (s.setQuad sd { s.quad sd with scale := s.arg0 })

/-- The word of the saved levels: bit 2 X_last, bit 1 B_last, bit 0 A_last (R225). -/
def Quad.levelWord (q : Quad) : Word :=
  (0 : BitVec 29) ++ BitVec.ofBool q.xLast ++ BitVec.ofBool q.bLast ++ BitVec.ofBool q.aLast

/-- QD_STATE (R225). -/
def execQdState (n : Nat) (s : State) : Host.Outcome State Fault Refusal :=
  onSide 0x45 n s fun sd => .next (s.setRes0 (s.quad sd).levelWord)

/-- QD_INJECT (R226). -/
def execQdInject (n : Nat) (x b : Bool) (s : State) : Host.Outcome State Fault Refusal :=
  onSide 0x46 n s fun sd => .next (s.sampleSide sd x b)

end Sys2Proof.Machine
end

