-- ==== Sys2Proof/Machine/RingBuffer.lean ====
section
/-! DEFINITION. The ring-buffer commands (41_ring_buffer.md, R150 to R157). -/

namespace Sys2Proof.Machine

/-- A command on `RB[r]`: BAD_INSTANCE unless `r < NUM_RB` (R106, R334). -/
def onRing (opc : Byte) (r : Nat) (s : State)
    (k : Host.Outcome State Fault Refusal) : Host.Outcome State Fault Refusal :=
  if r < s.cfg.numRb then k else fail .badInstance opc s

/-- RB_INIT (R150). -/
def execRbInit (r : Nat) (s : State) : Host.Outcome State Fault Refusal :=
  onRing 0x10 r s (.next (s.setRing r (Ring.fresh s.cfg.cap)))

/-- RB_PUSH_BACK (R151). -/
def execRbPushBack (r : Nat) (s : State) : Host.Outcome State Fault Refusal :=
  onRing 0x11 r s (.next (s.setRing r ((s.ring r).pushBack s.cfg.cap s.arg0)))

/-- RB_PUSH_FRONT (R152). -/
def execRbPushFront (r : Nat) (s : State) : Host.Outcome State Fault Refusal :=
  onRing 0x12 r s (.next (s.setRing r ((s.ring r).pushFront s.cfg.cap s.arg0)))

/-- RB_POP_BACK (R153). -/
def execRbPopBack (r : Nat) (s : State) : Host.Outcome State Fault Refusal :=
  let p := (s.ring r).popBack s.cfg.cap
  onRing 0x13 r s (.next ((s.setRing r p.2).setRes0 p.1))

/-- RB_POP_FRONT (R154). -/
def execRbPopFront (r : Nat) (s : State) : Host.Outcome State Fault Refusal :=
  let p := (s.ring r).popFront s.cfg.cap
  onRing 0x14 r s (.next ((s.setRing r p.2).setRes0 p.1))

/-- RB_GET (R155). -/
def execRbGet (r i : Nat) (s : State) : Host.Outcome State Fault Refusal :=
  onRing 0x15 r s
    (if i < s.cfg.cap then .next (s.setRes0 ((s.ring r).get s.cfg.cap i)) else fail .badIndex 0x15 s)

/-- RB_SET (R156). -/
def execRbSet (r i : Nat) (s : State) : Host.Outcome State Fault Refusal :=
  onRing 0x16 r s
    (if i < s.cfg.cap then .next (s.setRing r ((s.ring r).put s.cfg.cap i s.arg0)) else fail .badIndex 0x16 s)

/-- RB_LENGTH (R157). -/
def execRbLength (r : Nat) (s : State) : Host.Outcome State Fault Refusal :=
  onRing 0x17 r s (.next (s.setRes0 (BitVec.ofNat 32 ((s.ring r).length s.cfg.cap))))

end Sys2Proof.Machine
end

