-- ==== Sys2Proof/Machine/Timebase.lean ====
section
/-! DEFINITION. The timebase and flag commands (45_timebase_flags.md, R300 to R306). -/

namespace Sys2Proof.Machine

/-- A command on `FLAG[g]`: BAD_INSTANCE unless `g < NUM_FLAG` (R106, R334). -/
def onFlag (opc : Byte) (g : Nat) (s : State)
    (k : Host.Outcome State Fault Refusal) : Host.Outcome State Fault Refusal :=
  if g < s.cfg.numFlag then k else fail .badInstance opc s

/-- TIME_READ (R300). -/
def execTimeRead (s : State) : Host.Outcome State Fault Refusal :=
  .next ((s.setRes0 s.time.coarse).setRes1 (s.time.fine.setWidth 32))

/-- FLAG_ARM (R301). -/
def execFlagArm (g : Nat) (subcmd cmd : Byte) (s : State) : Host.Outcome State Fault Refusal :=
  onFlag 0x51 g s
    (.next (s.setFlag g { s.flag g with active := true, duration := s.arg0, cmd := cmd, subcmd := subcmd }))

/-- FLAG_CANCEL (R302). -/
def execFlagCancel (g : Nat) (s : State) : Host.Outcome State Fault Refusal :=
  onFlag 0x52 g s (.next (s.setFlag g { s.flag g with active := false, duration := 0xBF800000 }))

/-- FLAG_POLL (R303). -/
def execFlagPoll (g : Nat) (s : State) : Host.Outcome State Fault Refusal :=
  onFlag 0x53 g s
    (.next (s.setRes0 (if flagExecute s.cfg.ticksPerMs s.time (s.flag g) then 1 else 0)))

/-- FLAG_DONE (R304). -/
def execFlagDone (g : Nat) (s : State) : Host.Outcome State Fault Refusal :=
  let G := s.flag g
  onFlag 0x54 g s
    (.next (s.setFlag g (if fgt G.duration 0 then { G with last := s.time } else { G with active := false })))

/-- FLAG_READ (R305): BAD_INSTANCE, then BAD_SELECT (R334). -/
def execFlagRead (g sel : Nat) (s : State) : Host.Outcome State Fault Refusal :=
  let G := s.flag g
  onFlag 0x55 g s
    (match sel with
     | 0 => .next (s.setRes0 (if G.active then 1 else 0))
     | 1 => .next (s.setRes0 G.duration)
     | 2 => .next (s.setRes0 G.last.coarse)
     | 3 => .next (s.setRes0 (G.last.fine.setWidth 32))
     | 4 => .next (s.setRes0 ((0 : Half) ++ G.subcmd ++ G.cmd))
     | _ => fail .badSelect 0x55 s)

/-- FLAG_DEFAULT (R306). -/
def execFlagDefault (g : Nat) (s : State) : Host.Outcome State Fault Refusal :=
  onFlag 0x56 g s (.next (s.setFlag g Flag.fresh))

end Sys2Proof.Machine
end

