-- ==== Sys2Proof/Machine/Dispatch.lean ====
section
/-! DEFINITION. One arm for each command of R103, each a call of that command's meaning. -/

namespace Sys2Proof.Machine

/-- The command's own checks and effect, steps 3 to 5 of R100. -/
def exec (i : Instr) (s : State) : Host.Outcome State Fault Refusal :=
  match i with
  | .nop => Sys2Proof.Machine.execNop s
  | .softReset => Sys2Proof.Machine.execSoftReset s
  | .rbInit r => Sys2Proof.Machine.execRbInit r s
  | .rbPushBack r => Sys2Proof.Machine.execRbPushBack r s
  | .rbPushFront r => Sys2Proof.Machine.execRbPushFront r s
  | .rbPopBack r => Sys2Proof.Machine.execRbPopBack r s
  | .rbPopFront r => Sys2Proof.Machine.execRbPopFront r s
  | .rbGet r idx => Sys2Proof.Machine.execRbGet r idx s
  | .rbSet r idx => Sys2Proof.Machine.execRbSet r idx s
  | .rbLength r => Sys2Proof.Machine.execRbLength r s
  | .coefWr bank idx => Sys2Proof.Machine.execCoefWr bank idx s
  | .filtInit f o => Sys2Proof.Machine.execFiltInit f o s
  | .filtValue f => Sys2Proof.Machine.execFiltValue f s
  | .filtLast f => Sys2Proof.Machine.execFiltLast f s
  | .filtSetto f => Sys2Proof.Machine.execFiltSetto f s
  | .filtShiftby f => Sys2Proof.Machine.execFiltShiftby f s
  | .filtRead f idx sel => Sys2Proof.Machine.execFiltRead f idx sel s
  | .ctrlInit c o m => Sys2Proof.Machine.execCtrlInit c o m s
  | .ctrlSetPos c => Sys2Proof.Machine.execCtrlSetPos c s
  | .ctrlSetVel c => Sys2Proof.Machine.execCtrlSetVel c s
  | .ctrlUpdate c => Sys2Proof.Machine.execCtrlUpdate c s
  | .ctrlLast c => Sys2Proof.Machine.execCtrlLast c s
  | .ctrlSetto c => Sys2Proof.Machine.execCtrlSetto c s
  | .ctrlShiftby c => Sys2Proof.Machine.execCtrlShiftby c s
  | .ctrlRead c sel => Sys2Proof.Machine.execCtrlRead c sel s
  | .qdInit n => Sys2Proof.Machine.execQdInit n s
  | .qdRead n => Sys2Proof.Machine.execQdRead n s
  | .qdReadBoth => Sys2Proof.Machine.execQdReadBoth s
  | .qdAngle n => Sys2Proof.Machine.execQdAngle n s
  | .qdSetScale n => Sys2Proof.Machine.execQdSetScale n s
  | .qdState n => Sys2Proof.Machine.execQdState n s
  | .qdInject n x b => Sys2Proof.Machine.execQdInject n x b s
  | .timeRead => Sys2Proof.Machine.execTimeRead s
  | .flagArm g subcmd cmd => Sys2Proof.Machine.execFlagArm g subcmd cmd s
  | .flagCancel g => Sys2Proof.Machine.execFlagCancel g s
  | .flagPoll g => Sys2Proof.Machine.execFlagPoll g s
  | .flagDone g => Sys2Proof.Machine.execFlagDone g s
  | .flagRead g sel => Sys2Proof.Machine.execFlagRead g sel s
  | .flagDefault g => Sys2Proof.Machine.execFlagDefault g s

end Sys2Proof.Machine
end

