-- ==== Sys2Proof/Machine/Step.lean ====
section
/-! DEFINITION. One step of the machine (R5, R80, R82), and the host's write of a command. -/

namespace Sys2Proof.Machine

/-- Executing a word written to CMD (R76, R100): decode, then the command; a word that is no command faults. -/
def runWord (w : Word) (s : State) : Host.Outcome State Fault Refusal :=
  match decode w with
  | .ok i => exec i s
  | .error e => rejectWord e w s

/-- One step: the next event of the environment happens, whole (R80). With none to come the block waits and
nothing changes (assumption 1). A configuration outside R7 is refused (assumption 4). -/
def step (s : State) : Host.Outcome State Fault Refusal :=
  if configLegal s.cfg then
    match s.agenda with
    | [] => .next s
    | e :: rest => perform runWord e { s with agenda := rest }
  else .refused .illegalConfig

/-- The state in which the host's next step writes this command word to CMD (assumption 18). -/
def State.withFetchWord (s : State) (nbits w : Nat) : State :=
  { s with agenda := commandEvent s.cfg (BitVec.ofNat 32 (w % 2 ^ nbits)) :: s.agenda }

end Sys2Proof.Machine
end

