-- ==== Sys2Proof/Safety.lean ====
section
/-! DEFINITION. The terms claims use: the invariants the spec gives the state (R34, R36, R37, R40, R42, R44, R45, R46), the
live elements of a ring buffer, and a run with a fault recorded (R17, R349). -/

namespace Sys2Proof.Machine

/-- A ring buffer of capacity `n` with its indices in range (R36). -/
abbrev Ring.Wf (n : Nat) (B : Ring) : Prop := B.slot.length = n ∧ B.start < n ∧ B.stop < n

/-- The live elements of a ring buffer, index 0 first (R37). -/
def Ring.live (n : Nat) (B : Ring) : List Word := (List.range (B.length n)).map (B.get n)

/-- The invariants of a filter (R39, R40): its buffers are ring buffers and its order is in range; if it is
valid, each buffer holds `order + 1` live elements and `a_0` is not ±0; if not, it holds its reset values. -/
structure Filt.Wf (c : Config) (F : Filt) : Prop where
  order_le : F.order ≤ c.maxOrder
  bufB_wf : F.bufB.Wf c.cap
  bufA_wf : F.bufA.Wf c.cap
  bufIn_wf : F.bufIn.Wf c.cap
  bufOut_wf : F.bufOut.Wf c.cap
  bufB_length : F.valid = true → F.bufB.length c.cap = F.order + 1
  bufA_length : F.valid = true → F.bufA.length c.cap = F.order + 1
  bufIn_length : F.valid = true → F.bufIn.length c.cap = F.order + 1
  bufOut_length : F.valid = true → F.bufOut.length c.cap = F.order + 1
  a0_ne_zero : F.valid = true → isZero (F.bufA.get c.cap 0) = false
  fresh_of_invalid : F.valid = false → F = Filt.fresh c.cap

/-- The saved levels of a side agree: `X_last = A_last ⊕ B_last` (R44). -/
abbrev Quad.Wf (q : Quad) : Prop := q.xLast = (q.aLast ^^ q.bLast)

/-- A STATUS word the block can hold: the reserved bits are 0, the code is one of R332, and with ERR clear
the whole record is clear (R34, R77, R331, R332). -/
abbrev StatusWf (w : Word) : Prop :=
  w &&& 0x00FF00FC = 0 ∧ (statusCode w).toNat ≤ 9 ∧ (statusErr w = false → w = 0)

/-- The invariants of the block's state, all of them (R36, R38 to R46). -/
structure State.Inv (s : State) : Prop where
  cfg_legal : configLegal s.cfg = true
  rb_length : s.rb.length = s.cfg.numRb
  rb_wf : ∀ B ∈ s.rb, B.Wf s.cfg.cap
  stageB_length : s.stageB.length = s.cfg.maxOrder + 1
  stageA_length : s.stageA.length = s.cfg.maxOrder + 1
  filt_length : s.filt.length = s.cfg.numFilt
  filt_wf : ∀ F ∈ s.filt, F.Wf s.cfg
  ctrl_length : s.ctrl.length = s.cfg.numCtrl
  ctrl_filter_valid : ∀ c, c < s.cfg.numCtrl → (s.controller c).valid = true → (s.filter c).valid = true
  qdLeft_wf : s.qdLeft.Wf
  qdRight_wf : s.qdRight.Wf
  time_fine_lt : s.time.fine.toNat < s.cfg.ticksPerMs
  flags_length : s.flags.length = s.cfg.numFlag
  flags_fine_lt : ∀ G ∈ s.flags, G.last.fine.toNat < s.cfg.ticksPerMs
  status_wf : StatusWf s.status

/-- A fault is on record: STATUS.ERR is 1 (R34). -/
def State.faulted (s : State) : Bool := statusErr s.status

/-- The run of `k` steps from `s` is a faulted run: STATUS.ERR was 1 at some point of it, whether or not the record was
cleared later (R17, R349). A claim about a host program takes the negation as a premise. -/
def FaultedRun (k : Nat) (s : State) : Prop :=
  ∃ j t, j ≤ k ∧ Sys2Proof.core.run j s = .next t ∧ t.faulted = true

end Sys2Proof.Machine
end

