-- ==== Sys2Proof/Certificates/Slice0/Obligations.lean ====
section
/-! DEFINITION. The statements about the model, from the numbered rules of the spec, with the few terms they are written in. -/

namespace Sys2Proof.Claims

open Sys2Proof Sys2Proof.Machine

/-! ### Terms -/

/-- Several steps of the machine. -/
abbrev run (k : Nat) (s : State) : Host.Outcome State Fault Refusal := Host.Core.run Sys2Proof.core k s

/-- The next event is an access or event `e`, and then `rest`. The list of events is the model's own (assumption 1). -/
abbrev Coming (s : State) (e : Event) (rest : List Event) : Prop := configLegal s.cfg = true ∧ s.agenda = e :: rest

/-- The same, with the block not in reset (R370). -/
abbrev Next (s : State) (e : Event) (rest : List Event) : Prop := Coming s e rest ∧ s.resetHeld = false

/-- Three bits as a word, the first one bit 2. -/
def bits3 (x y z : Bool) : Word := BitVec.ofNat 32 ((if x then 4 else 0) + (if y then 2 else 0) + (if z then 1 else 0))

/-- The illegal OPC values, as R104 lists them. -/
def illegalOpcodes : List Nat :=
  List.range' 0x02 14 ++ List.range' 0x18 8 ++ List.range' 0x27 9 ++ List.range' 0x38 8 ++ List.range' 0x47 9 ++
    List.range' 0x57 169

/-- The "match" and "mask" columns of spec/opcode_table.json, in its order. -/
def opcodeRows : List (Word × Word) := [
  (0x00000000, 0xFFFFFFFF), (0x01000000, 0xFFFFFFFF),
  (0x10000000, 0xFF00FFFF), (0x11000000, 0xFF00FFFF), (0x12000000, 0xFF00FFFF), (0x13000000, 0xFF00FFFF),
  (0x14000000, 0xFF00FFFF), (0x15000000, 0xFF0000FF), (0x16000000, 0xFF0000FF), (0x17000000, 0xFF00FFFF),
  (0x20000000, 0xFFFF00FE), (0x21000000, 0xFF0000FF), (0x22000000, 0xFF00FFFF), (0x23000000, 0xFF00FFFF),
  (0x24000000, 0xFF00FFFF), (0x25000000, 0xFF00FFFF), (0x26000000, 0xFF000000),
  (0x30000000, 0xFF0000FE), (0x31000000, 0xFF00FFFF), (0x32000000, 0xFF00FFFF), (0x33000000, 0xFF00FFFF),
  (0x34000000, 0xFF00FFFF), (0x35000000, 0xFF00FFFF), (0x36000000, 0xFF00FFFF), (0x37000000, 0xFF00FF00),
  (0x40000000, 0xFF00FFFF), (0x41000000, 0xFF00FFFF), (0x42000000, 0xFFFFFFFF), (0x43000000, 0xFF00FFFF),
  (0x44000000, 0xFF00FFFF), (0x45000000, 0xFF00FFFF), (0x46000000, 0xFF00FFFC),
  (0x50000000, 0xFFFFFFFF), (0x51000000, 0xFF000000), (0x52000000, 0xFF00FFFF), (0x53000000, 0xFF00FFFF),
  (0x54000000, 0xFF00FFFF), (0x55000000, 0xFF00FF00), (0x56000000, 0xFF00FFFF)]

/-- The checks a decoded command makes, in priority order, each with whether it fails (R334). -/
def checks (s : State) : Instr → List (Bool × ErrCode)
  | .nop | .softReset | .timeRead | .qdReadBoth => []
  | .rbInit r | .rbPushBack r | .rbPushFront r | .rbPopBack r | .rbPopFront r | .rbLength r =>
    [(decide (s.cfg.numRb ≤ r), .badInstance)]
  | .rbGet r i | .rbSet r i => [(decide (s.cfg.numRb ≤ r), .badInstance), (decide (s.cfg.cap ≤ i), .badIndex)]
  | .coefWr _ i => [(decide (s.cfg.maxOrder < i), .badIndex)]
  | .filtInit f o => [(decide (s.cfg.numFilt ≤ f), .badInstance), (decide (s.cfg.maxOrder < o), .badOrder),
      (isZero (s.stagedA 0), .zeroA0)]
  | .filtValue f | .filtLast f | .filtSetto f | .filtShiftby f =>
    [(decide (s.cfg.numFilt ≤ f), .badInstance), (!(s.filter f).valid, .notInit)]
  | .filtRead f i sel => [(decide (s.cfg.numFilt ≤ f), .badInstance), (decide (5 ≤ sel), .badSelect),
      (decide (sel ≤ 3) && !(s.filter f).valid, .notInit),
      (decide ((sel ≤ 3 ∧ (s.filter f).order < i) ∨ (sel = 4 ∧ i ≠ 0)), .badIndex)]
  | .ctrlInit c o _ => [(decide (s.cfg.numCtrl ≤ c), .badInstance), (decide (s.cfg.maxOrder < o), .badOrder),
      (isZero (s.stagedA 0), .zeroA0)]
  | .ctrlSetPos c | .ctrlSetVel c | .ctrlUpdate c | .ctrlLast c | .ctrlSetto c | .ctrlShiftby c =>
    [(decide (s.cfg.numCtrl ≤ c), .badInstance), (!(s.controller c).valid, .notInit)]
  | .ctrlRead c sel => [(decide (s.cfg.numCtrl ≤ c), .badInstance), (decide (5 ≤ sel), .badSelect)]
  | .qdInit n | .qdRead n | .qdAngle n | .qdSetScale n | .qdState n | .qdInject n _ _ =>
    [(decide (2 ≤ n), .badInstance)]
  | .flagArm g _ _ | .flagCancel g | .flagPoll g | .flagDone g | .flagDefault g =>
    [(decide (s.cfg.numFlag ≤ g), .badInstance)]
  | .flagRead g sel => [(decide (s.cfg.numFlag ≤ g), .badInstance), (decide (5 ≤ sel), .badSelect)]

/-- The code of the first check that fails (R333). -/
def firstFailing (l : List (Bool × ErrCode)) : Option ErrCode := (l.find? (·.1)).map (·.2)

/-- The biased exponent and fraction fields of a binary32 word (R10). -/
def expField (w : Word) : Nat := (w.extractLsb' 23 8).toNat
/-- See `expField`. -/
def fracField (w : Word) : Nat := (w.extractLsb' 0 23).toNat

/-- A binary32 word that is neither an infinity nor a NaN. -/
abbrev Finite (w : Word) : Prop := expField w ≠ 255

/-- The rational a finite binary32 word denotes, written from the IEEE layout and not from the model's units
(R10, R12). -/
def valQ (w : Word) : ℚ :=
  (if w.getLsbD 31 then -1 else 1) *
    (if expField w = 0 then (fracField w / 2 ^ 23 : ℚ) * 2 ^ (-126 : ℤ)
     else (1 + fracField w / 2 ^ 23 : ℚ) * 2 ^ ((expField w : ℤ) - 127))

/-- `r` is the correctly rounded binary32 of the exact result `e`: to nearest, ties to the even fraction,
infinity from half a unit past the largest finite value, with the sign of `e` (R11). -/
def CorrectlyRounded (e : ℚ) (r : Word) : Prop :=
  (e ≠ 0 → r.getLsbD 31 = decide (e < 0)) ∧
  (|e| < (2 - 2 ^ (-24 : ℤ)) * 2 ^ (127 : ℤ) →
    Finite r ∧ ∀ w, Finite w → |valQ r - e| ≤ |valQ w - e| ∧
      (|valQ w - e| = |valQ r - e| → valQ w ≠ valQ r → fracField r % 2 = 0)) ∧
  ((2 - 2 ^ (-24 : ℤ)) * 2 ^ (127 : ℤ) ≤ |e| → expField r = 255 ∧ fracField r = 0)

/-- The direct-form-I output over the live lists of a filter, in the order of R172; `nan` numbers the NaN draws. -/
def directForm (nan : Nat → Word) (b a x y : List Word) : Word :=
  let t := (b.zip x).zipIdx.foldl (fun acc p => fadd (nan (2 * p.2 + 1)) acc (fmul (nan (2 * p.2)) p.1.1 p.1.2)) 0
  let m := 2 * b.length
  let t := (a.tail.zip y).zipIdx.foldl
    (fun acc p => fsub (nan (m + 2 * p.2 + 1)) acc (fmul (nan (m + 2 * p.2)) p.1.1 p.1.2)) t
  fdiv (nan (m + 2 * (a.length - 1))) t (a.headD 0)

/-- The four live lists of a filter: B, A, IN, OUT. -/
abbrev liveB (s : State) (f : Nat) : List Word := (s.filter f).bufB.live s.cfg.cap
/-- See `liveB`. -/
abbrev liveA (s : State) (f : Nat) : List Word := (s.filter f).bufA.live s.cfg.cap
/-- See `liveB`. -/
abbrev liveIn (s : State) (f : Nat) : List Word := (s.filter f).bufIn.live s.cfg.cap
/-- See `liveB`. -/
abbrev liveOut (s : State) (f : Nat) : List Word := (s.filter f).bufOut.live s.cfg.cap

/-- Filter `f` after an init of order `o` from the staging bank of `s` (R171). -/
def Initialised (s t : State) (f o : Nat) : Prop :=
  (t.filter f).valid = true ∧ (t.filter f).order = o ∧
  liveB t f = s.stageB.take (o + 1) ∧ liveA t f = s.stageA.take (o + 1) ∧
  liveIn t f = List.replicate (o + 1) 0 ∧ liveOut t f = List.replicate (o + 1) 0

/-- Commands of the unit with this high nibble of OPC (R103). -/
abbrev ofUnit (i : Instr) (u : Nat) : Prop := i.opcode.toNat / 16 = u

/-- The states agree in everything but controller `c`'s velocity target and mode, what CTRL_READ reports as TVEL and
CFG. -/
def AlikeButVelocity (c : Nat) (s t : State) : Prop :=
  ∃ v m, t = { s with ctrl := s.ctrl.set c { s.controller c with targetVel := v, mode := m } }

/-- An infinity. -/
def infW (neg : Bool) : Word := if neg then 0xFF800000 else 0x7F800000

/-- A zero. -/
def zeroW (neg : Bool) : Word := if neg then 0x80000000 else 0x00000000

/-- The elapsed ticks of a flag (R292). -/
abbrev elapsed (s : State) (g : Nat) : Int := elapsedTicks s.cfg.ticksPerMs s.time (s.flag g).last

/-- The total count of fine ticks of a time point. -/
def totalTicks (F : Nat) (t : TimePoint) : Nat := t.coarse.toNat * F + t.fine.toNat

end Sys2Proof.Claims

open Sys2Proof Sys2Proof.Machine Sys2Proof.Claims

/-! ### Encoding -/

/-- Decoding the encoding of a command that fits its fields gives the command back, every operand at every value
its field admits (R100 to R103, R105). -/
def Obligations.DecodeOfEncodeIsTheCommand : Prop :=
  ∀ i : Instr, i.wellFormed = true → decode (encode i) = .ok i

/-- A word that decodes is the encoding of what it decodes to: each command has one word (R100, R110). -/
def Obligations.EncodeOfDecodeIsTheWord : Prop :=
  ∀ (w : Word) (i : Instr), decode w = .ok i → i.wellFormed = true ∧ encode i = w

/-- R104: an OPC value not in the map raises ILLEGAL_OPCODE whatever the other fields hold, the illegal values are
the listed ones, and every word either executes or faults. -/
def Obligations.IllegalOpcodesFault : Prop :=
  ∀ (w : Word) (s : State),
    ((opcOf w).toNat ∈ illegalOpcodes ↔ decode w = .error .illegalOpcode) ∧
    ((opcOf w).toNat ∈ illegalOpcodes →
      runWord w s = .next { s with status := recordFault 1 (opcOf w) s.status }) ∧
    ∃ t, runWord w s = .next t

/-- R105, R110, with the table's columns: a word decodes exactly when it matches a row, it has a reserved-field error
exactly when its OPC is a row's and a bit the row's mask requires to be zero is not, and then RESERVED_FIELD is
recorded. Which bits those are is read from the preamble of 30_encoding.md, the one bits of the mask, and not from the
last sentence of R105, which says the zero bits (assumption 19). -/
def Obligations.ReservedBitsMustBeZero : Prop :=
  ∀ (w : Word) (s : State),
    ((∃ i, decode w = .ok i) ↔ ∃ row ∈ opcodeRows, w &&& row.2 = row.1) ∧
    (decode w = .error .reservedField ↔
      ∃ row ∈ opcodeRows, w &&& 0xFF000000 = row.1 ∧ w &&& row.2 ≠ row.1) ∧
    (decode w = .error .reservedField →
      runWord w s = .next { s with status := recordFault 2 (opcOf w) s.status })

/-- One word of each family, written out from R103, decodes to the command it stands for. -/
def Obligations.SampleWordsDecode : Prop :=
  decode 0x00000000 = .ok .nop ∧ decode 0x01000000 = .ok .softReset ∧
  decode 0x15010300 = .ok (.rbGet 1 3) ∧ decode 0x20000401 = .ok (.coefWr .denom 4) ∧
  decode 0x26020103 = .ok (.filtRead 2 1 3) ∧ decode 0x30010501 = .ok (.ctrlInit 1 5 .mode) ∧
  decode 0x46010002 = .ok (.qdInject 1 true false) ∧ decode 0x51043412 = .ok (.flagArm 4 0x34 0x12)

/-! ### Steps, the window and the events -/

/-- A well-formed write of a word to CMD is one step: that of the command the word decodes to, or, if it decodes to
none, the record of the fault, with INFO the opcode byte (R76, R80, R100, R331). The step takes the write off the list
of events (assumption 1); `withFetchWord` places such a write (assumption 18). -/
def Obligations.StepRunsTheDecodedCommand : Prop :=
  (∀ (s : State) (rest : List Event) (w : Word), Next s (.write s.cfg.base 4 w) rest →
    (∀ i, decode w = .ok i → step s = exec i { s with agenda := rest }) ∧
    (∀ e, decode w = .error e →
      step s = .next { s with agenda := rest, status := recordFault (codeOf e).byte (opcOf w) s.status })) ∧
  (∀ (s : State) (w : Word) (i : Instr), configLegal s.cfg = true → s.resetHeld = false → decode w = .ok i →
    step (s.withFetchWord 32 w.toNat) = exec i s)

/-- R75: a well-formed read of a register returns its value and changes nothing of the block. The value joins the
observation for the seven registers of R17, which CMD is not one of (assumption 2); the step takes the read off the list
of events (assumption 1). -/
def Obligations.ReadsReturnTheRegister : Prop :=
  ∀ (s : State) (rest : List Event) (off : Nat) (v : Word),
    (off, v) ∈ [(0x00, 0), (0x04, s.arg0), (0x08, s.arg1), (0x0C, s.res0), (0x10, s.res1), (0x14, s.status),
      (0x18, param0Word s.cfg), (0x1C, param1Word s.cfg)] →
    Next s (.read (s.cfg.base + off) 4) rest →
    step s = .next { s with
      agenda := rest, readData := v, observed := if off = 0 then s.observed else s.observed ++ [v] }

/-- R73: a size other than 4, a misaligned offset, a reserved offset or a write to a read-only register records
ACCESS with INFO the low byte of the offset and changes nothing else; a faulting read returns 0 (what a read returned is
a field of the model's own, assumption 2). The step takes the access off the list of events (assumption 1). -/
def Obligations.MalformedAccessesFault : Prop :=
  ∀ (s : State) (rest : List Event) (off size : Nat) (v : Word), off < 256 →
    let bad := size ≠ 4 ∨ off % 4 ≠ 0 ∨ 0x20 ≤ off
    let record := recordFault 9 (BitVec.ofNat 8 off) s.status
    (bad → Next s (.read (s.cfg.base + off) size) rest →
      step s = .next { s with agenda := rest, status := record, readData := 0 }) ∧
    (bad ∨ off ∈ [0x0C, 0x10, 0x18, 0x1C] → Next s (.write (s.cfg.base + off) size v) rest →
      step s = .next { s with agenda := rest, status := record })

/-- A write of ARG0 or ARG1 stores the word and does nothing else (R72, R79), but that the step takes the
write off the list of events (assumption 1). -/
def Obligations.OperandWritesStore : Prop :=
  ∀ (s : State) (rest : List Event) (v : Word),
    (Next s (.write (s.cfg.base + 4) 4 v) rest → step s = .next { s with agenda := rest, arg0 := v }) ∧
    (Next s (.write (s.cfg.base + 8) 4 v) rest → step s = .next { s with agenda := rest, arg1 := v })

/-- R77: a STATUS write with bit 0 set clears the whole register, with bit 0 clear it changes nothing, and it never
faults. The step takes the write off the list of events (assumption 1). -/
def Obligations.StatusWriteClearsTheRecord : Prop :=
  ∀ (s : State) (rest : List Event) (w : Word), Next s (.write (s.cfg.base + 0x14) 4 w) rest →
    (w.getLsbD 0 = true → step s = .next { s with agenda := rest, status := 0 }) ∧
    (w.getLsbD 0 = false → step s = .next { s with agenda := rest })

/-- R78: every field of PARAM0 and PARAM1 in a legal configuration, and the two words of TC. -/
def Obligations.ParamWordsReportTheConfiguration : Prop :=
  (∀ c : Config, configLegal c = true →
    ((param0Word c).extractLsb' 0 4).toNat = c.rbLog2 ∧ ((param0Word c).extractLsb' 4 4).toNat = c.numRb ∧
    ((param0Word c).extractLsb' 8 4).toNat = c.numFilt ∧ ((param0Word c).extractLsb' 12 4).toNat = c.numCtrl ∧
    ((param0Word c).extractLsb' 16 4).toNat = c.numFlag ∧ (param0Word c).getLsbD 20 = c.qdSaveOnNoEdge ∧
    (param0Word c).extractLsb' 21 11 = 0 ∧
    ((param1Word c).extractLsb' 0 16).toNat = c.ticksPerMs ∧ (param1Word c).extractLsb' 16 16 = 0) ∧
  param0Word Config.tc = 0x00072323 ∧ param1Word Config.tc = 0x000000FA

/-- The byte view of the window is little-endian (R74). -/
def Obligations.WindowBytesAreLittleEndian : Prop :=
  ∀ (s : State) (off k : Nat) (reg : Reg), k < 4 → regAt off 4 = some reg →
    s.windowByte (off + k) = (s.readReg reg).extractLsb' (8 * k) 8

/-- The model's own choices about the environment: a legal block with nothing to come waits unchanged (assumption 1), a
host access outside the window stops by name (assumption 9), and while the platform holds the block in reset, which then
accepts no access (R370), an access stops by name and a sample or tick does nothing (assumption 16). -/
def Obligations.EnvironmentConventions : Prop :=
  (∀ s : State, configLegal s.cfg = true → s.agenda = [] → step s = .next s) ∧
  (∀ (s : State) (rest : List Event) (addr size : Nat), addr < s.cfg.base ∨ s.cfg.base + 256 ≤ addr →
    Next s (.read addr size) rest → step s = .fault (.noSuchAddress addr)) ∧
  (∀ (s : State) (rest : List Event) (addr size : Nat) (v : Word), addr < s.cfg.base ∨ s.cfg.base + 256 ≤ addr →
    Next s (.write addr size v) rest → step s = .fault (.noSuchAddress addr)) ∧
  (∀ (s : State) (rest : List Event), s.resetHeld = true →
    (∀ addr size, Coming s (.read addr size) rest → step s = .fault (.accessInReset addr)) ∧
    (∀ addr size v, Coming s (.write addr size v) rest → step s = .fault (.accessInReset addr)) ∧
    (∀ sd x b, Coming s (.sample sd x b) rest → step s = .next { s with agenda := rest }) ∧
    (Coming s .tick rest → step s = .next { s with agenda := rest }))

/-- A configuration is refused exactly when it breaks a constraint of R7; that the refusal is the step's is the
model's choice (assumption 4). -/
def Obligations.IllegalConfigurationsAreRefused : Prop :=
  ∀ s : State, step s = .refused .illegalConfig ↔
    ¬ (2 ≤ s.cfg.rbLog2 ∧ s.cfg.rbLog2 ≤ 8 ∧ 1 ≤ s.cfg.numRb ∧ s.cfg.numRb ≤ 15 ∧ s.cfg.numCtrl ≤ s.cfg.numFilt ∧
      s.cfg.numFilt ≤ 15 ∧ 1 ≤ s.cfg.numCtrl ∧ s.cfg.numCtrl ≤ 15 ∧ 1 ≤ s.cfg.numFlag ∧ s.cfg.numFlag ≤ 15 ∧
      1 ≤ s.cfg.ticksPerMs ∧ s.cfg.ticksPerMs ≤ 65535 ∧ s.cfg.base % 256 = 0)

/-! ### Faults -/

/-- R331: the first fault since the last clear sets ERR, CODE and INFO; a fault while ERR is 1 sets MULTI and keeps
CODE and INFO. -/
def Obligations.FaultRecordKeepsTheFirst : Prop :=
  ∀ (code info : Byte) (w : Word),
    (statusErr w = false →
      statusErr (recordFault code info w) = true ∧ statusCode (recordFault code info w) = code ∧
      statusInfo (recordFault code info w) = info ∧ statusMulti (recordFault code info w) = statusMulti w) ∧
    (statusErr w = true →
      statusErr (recordFault code info w) = true ∧ statusMulti (recordFault code info w) = true ∧
      statusCode (recordFault code info w) = statusCode w ∧ statusInfo (recordFault code info w) = statusInfo w)

/-- A command that fails a check records the code of the first check that fails, with INFO its opcode, and changes
nothing else; one that fails none completes and leaves STATUS as it was, SOFT_RESET apart (R106, R333, R334, R335). In a
run that is not a faulted run, every word the host writes to CMD is a command that fails no check, even if the record is
cleared later (R17, R349). -/
def Obligations.FirstFailingCheckDecides : Prop :=
  (∀ (i : Instr) (s : State),
    (∀ code, firstFailing (checks s i) = some code →
      exec i s = .next { s with status := recordFault code.byte i.opcode s.status }) ∧
    (firstFailing (checks s i) = none → ∃ t, exec i s = .next t ∧ (i ≠ .softReset → t.status = s.status))) ∧
  (∀ (s t : State) (j k : Nat) (w : Word) (rest : List Event), ¬ FaultedRun k s → j < k → run j s = .next t →
    Next t (commandEvent t.cfg w) rest → ∃ i, decode w = .ok i ∧ firstFailing (checks t i) = none)

/-! ### Frames over all commands -/

/-- A command other than SOFT_RESET writes RES0 and RES1 only where R103 lists it for them (R108); SOFT_RESET, which R103
does not list, clears both (R131, R371; that the two rules make it an exception to R108, assumption 17). -/
def Obligations.OnlyListedCommandsWriteResults : Prop :=
  ∀ (i : Instr) (s t : State), exec i s = .next t →
    (i ≠ .softReset →
      (i.opcode.toNat ∉ [0x13, 0x14, 0x15, 0x17, 0x22, 0x23, 0x26, 0x33, 0x34, 0x37, 0x41, 0x42, 0x43, 0x45, 0x50, 0x53,
          0x55] → t.res0 = s.res0) ∧
      (i.opcode.toNat ∉ [0x33, 0x42, 0x50] → t.res1 = s.res1)) ∧
    (i = .softReset → t.res0 = 0 ∧ t.res1 = 0)

/-- Commands other than SOFT_RESET never change ARG0, ARG1 or TIME; none changes the configuration, moves the reset
input, takes or adds an event or an observation, or returns data to a read; and every byte of the window outside RES0,
RES1 and STATUS reads as before (R31, R32, R45, R79; the events and what the host has read are the model's own,
assumptions 1 and 2; that SOFT_RESET is excepted, assumption 17). -/
def Obligations.CommandsKeepOperandsAndTime : Prop :=
  ∀ (i : Instr) (s t : State), exec i s = .next t →
    t.cfg = s.cfg ∧ t.resetHeld = s.resetHeld ∧ t.agenda = s.agenda ∧ t.observed = s.observed ∧
    t.readData = s.readData ∧
    (i ≠ .softReset → t.arg0 = s.arg0 ∧ t.arg1 = s.arg1 ∧ t.time = s.time ∧
      ∀ off, (off < 0x0C ∨ 0x18 ≤ off) → t.windowByte off = s.windowByte off)

/-- Among commands, each unit's state is changed only by those that act on it and SOFT_RESET: ring buffers by RB
(R150 to R157), staging by COEF_WR (R180), filters by FILT (R181 to R186) and by CTRL, which wraps them (R260 to R267),
controllers by CTRL, the decoder by QD (R220 to R226), flags by FLAG (R301 to R306). -/
def Obligations.UnitsKeepToThemselves : Prop :=
  ∀ (i : Instr) (s t : State), exec i s = .next t → i ≠ .softReset →
    (¬ ofUnit i 1 → t.rb = s.rb) ∧
    (i.opcode ≠ 0x20 → t.stageB = s.stageB ∧ t.stageA = s.stageA) ∧
    (¬ ofUnit i 2 → ¬ ofUnit i 3 → t.filt = s.filt) ∧
    (¬ ofUnit i 3 → t.ctrl = s.ctrl) ∧
    (¬ ofUnit i 4 → t.qdLeft = s.qdLeft ∧ t.qdRight = s.qdRight) ∧
    (¬ ofUnit i 5 → t.flags = s.flags)

/-- R40: "coefficient buffers are immutable after initialization". Only an init of that filter, by FILT_INIT or
CTRL_INIT, or a reset changes a filter's coefficients or order. -/
def Obligations.CoefficientsAreImmutable : Prop :=
  ∀ (i : Instr) (s t : State) (f : Nat), s.Inv → f < s.cfg.numFilt → exec i s = .next t → i ≠ .softReset →
    (∀ o, i ≠ .filtInit f o) → (∀ o m, i ≠ .ctrlInit f o m) →
    (t.filter f).bufB = (s.filter f).bufB ∧ (t.filter f).bufA = (s.filter f).bufA ∧
    (t.filter f).order = (s.filter f).order ∧ (t.filter f).valid = (s.filter f).valid

/-! ### The invariant -/

/-- Every step keeps the invariants the spec gives the state (R36, R40, R42, R44, R45, R34), from every state that
meets them. -/
def Obligations.StepKeepsTheInvariant : Prop :=
  ∀ s t : State, s.Inv → step s = .next t → t.Inv

/-- The state after reset meets the invariants, in every legal configuration and whatever the number of its pin draws
(R47, R371); so does State.reset, which is that state in TC (the configuration is the model's choice, assumption 3). -/
def Obligations.ResetMeetsTheInvariant : Prop :=
  (∀ (c : Config) (n : Nat), configLegal c = true → (State.resetOf c n).Inv) ∧ State.reset.Inv

/-! ### Control and reset -/

/-- NOP changes nothing (R130). SOFT_RESET and the release of the platform's reset input from assertion give every
element its reset value, the saved levels from two pin draws, whatever the state before (R47, R370, R371; the draws are
numbered by assumptions 5 and 7). Asserting the input puts the block in reset, and releasing it when it is not asserted
is no change (assumption 16). -/
def Obligations.NopChangesNothingAndResetChangesAll : Prop :=
  ∀ s : State,
    let p := Config.pinDraw s.draws
    let q := Config.pinDraw (s.draws + 1)
    let ring : Ring := ⟨List.replicate s.cfg.cap 0, 0, 0⟩
    let t : State :=
      { cfg := s.cfg, arg0 := 0, arg1 := 0, res0 := 0, res1 := 0, status := 0
        rb := List.replicate s.cfg.numRb ring
        stageB := List.replicate (s.cfg.maxOrder + 1) 0
        stageA := List.replicate (s.cfg.maxOrder + 1) 0
        filt := List.replicate s.cfg.numFilt ⟨false, 0, ring, ring, ring, ring⟩
        ctrl := List.replicate s.cfg.numCtrl ⟨false, 0, 0, 0, 0, .pos, .sign⟩
        qdLeft := ⟨p.x ^^ p.b, p.b, p.x, 0, s.cfg.qdScaleReset⟩
        qdRight := ⟨q.x ^^ q.b, q.b, q.x, 0, s.cfg.qdScaleReset⟩
        time := ⟨0, 0⟩
        flags := List.replicate s.cfg.numFlag ⟨false, 0xBF800000, ⟨0, 0⟩, 0, 0⟩
        resetHeld := s.resetHeld
        agenda := s.agenda, observed := s.observed, readData := s.readData, draws := s.draws + 2 }
    exec .nop s = .next s ∧ exec .softReset s = .next t ∧
    perform runWord .resetAssert s = .next { s with resetHeld := true } ∧
    (s.resetHeld = true → perform runWord .resetRelease s = .next { t with resetHeld := false }) ∧
    (s.resetHeld = false → perform runWord .resetRelease s = .next s)

/-! ### Ring buffers -/

/-- R142: `rb_push_back` on the indices, and what it means for the live elements: `v` appended at the back, the front
one dropped if the buffer was full, and the evicted element still read at index N − 1 and in the slot at `end`. That the
indices meet exactly when the length was N − 1 is R142's sentence "The condition `B.end = B.start` after the advance holds
exactly when the length was N − 1 before it", which the spec marks as derived from R140. -/
def Obligations.PushBackAppendsAndEvictsTheOldest : Prop :=
  ∀ (n : Nat) (B : Ring) (v : Word), 2 ≤ n → B.Wf n →
    let stop := (B.stop + 1) % n
    B.pushBack n v = ⟨B.slot.set B.stop v, if stop = B.start then (B.start + 1) % n else B.start, stop⟩ ∧
    (stop = B.start ↔ B.length n = n - 1) ∧
    (B.pushBack n v).live n = (if B.length n < n - 1 then B.live n else (B.live n).tail) ++ [v] ∧
    (B.pushBack n v).length n = min (B.length n + 1) (n - 1) ∧
    (B.length n = n - 1 → (B.pushBack n v).get n (n - 1) = B.get n 0 ∧
      (B.pushBack n v).slot.getD (B.pushBack n v).stop 0 = B.get n 0)

/-- R143: `rb_push_front` on the indices, and what it means for the live elements: `v` put at the front, the back one
dropped if the buffer was full. -/
def Obligations.PushFrontPrependsAndDropsTheBack : Prop :=
  ∀ (n : Nat) (B : Ring) (v : Word), 2 ≤ n → B.Wf n →
    let start := (B.start + n - 1) % n
    B.pushFront n v = ⟨B.slot.set start v, start, if start = B.stop then (B.stop + n - 1) % n else B.stop⟩ ∧
    (start = B.stop ↔ B.length n = n - 1) ∧
    (B.pushFront n v).live n = v :: (if B.length n < n - 1 then B.live n else (B.live n).dropLast) ∧
    (B.pushFront n v).length n = min (B.length n + 1) (n - 1)

/-- R144, R145: an empty buffer answers 0 and is unchanged; else a pop moves one index, clears no slot, and returns and
drops the back (front) live element. -/
def Obligations.PopsReturnTheEndElement : Prop :=
  ∀ (n : Nat) (B : Ring), 0 < n → B.Wf n →
    (B.live n = [] → B.popBack n = (0, B) ∧ B.popFront n = (0, B)) ∧
    (∀ l v, B.live n = l ++ [v] →
      B.popBack n = (v, { B with stop := (B.stop + n - 1) % n }) ∧ (B.popBack n).2.live n = l) ∧
    (∀ l v, B.live n = v :: l →
      B.popFront n = (v, { B with start := (B.start + 1) % n }) ∧ (B.popFront n).2.live n = l)

/-- R146, R147: a get reads and a set writes the slot at `(start + i) mod N`; a set element is read back, every other
element reads as before, live or stale, and neither the length nor an index moves. The spec marks R147 as derived from
R146. -/
def Obligations.SetThenGetReadsBack : Prop :=
  ∀ (n : Nat) (B : Ring) (i j : Nat) (v : Word), B.Wf n → i < n → j < n →
    B.get n i = B.slot.getD ((B.start + i) % n) 0 ∧
    B.put n i v = { B with slot := B.slot.set ((B.start + i) % n) v } ∧
    (B.put n i v).get n j = (if j = i then v else B.get n j) ∧
    (B.put n i v).length n = B.length n ∧ (B.put n i v).start = B.start ∧ (B.put n i v).stop = B.stop

/-- Pushing up to N − 1 words onto an empty buffer: in push order at the back, in reverse order at the front
(R158 items 1 and 2). -/
def Obligations.PushOrderIsKept : Prop :=
  ∀ (n : Nat) (B : Ring) (vs : List Word), 2 ≤ n → B.Wf n → B.length n = 0 → vs.length ≤ n - 1 →
    (vs.foldl (fun B v => B.pushBack n v) B).live n = vs ∧
    (vs.foldl (fun B v => B.pushFront n v) B).live n = vs.reverse

/-- The eight RB commands on buffer `r` are the operations of a deque of at most N − 1 words, and change nothing but
that buffer and RES0 (R150 to R157 for instances and indices in range, R158 item 4). -/
def Obligations.RingCommandsRefineABoundedDeque : Prop :=
  ∀ (s : State) (r : Nat), s.Inv → r < s.cfg.numRb →
    let n := s.cfg.cap
    let L := (s.ring r).live n
    L.length ≤ n - 1 ∧
    (∃ B : Ring, B.live n = [] ∧ (∀ j, B.get n j = 0) ∧ exec (.rbInit r) s = .next { s with rb := s.rb.set r B }) ∧
    (∃ B : Ring, B.live n = (if L.length < n - 1 then L else L.tail) ++ [s.arg0] ∧
      exec (.rbPushBack r) s = .next { s with rb := s.rb.set r B }) ∧
    (∃ B : Ring, B.live n = s.arg0 :: (if L.length < n - 1 then L else L.dropLast) ∧
      exec (.rbPushFront r) s = .next { s with rb := s.rb.set r B }) ∧
    (∃ B : Ring, B.live n = L.dropLast ∧
      exec (.rbPopBack r) s = .next { s with rb := s.rb.set r B, res0 := L.getLastD 0 }) ∧
    (∃ B : Ring, B.live n = L.tail ∧
      exec (.rbPopFront r) s = .next { s with rb := s.rb.set r B, res0 := L.headD 0 }) ∧
    (∀ i, i < L.length → exec (.rbGet r i) s = .next { s with res0 := L.getD i 0 }) ∧
    (∀ i, i < L.length → ∃ B : Ring, B.live n = L.set i s.arg0 ∧
      exec (.rbSet r i) s = .next { s with rb := s.rb.set r B }) ∧
    exec (.rbLength r) s = .next { s with res0 := BitVec.ofNat 32 L.length }

/-- RB_GET and RB_SET reach every slot `i < N`, live or stale, through the logical index (R146, R147, R155, R156). -/
def Obligations.IndexedRingCommandsReachStaleSlots : Prop :=
  ∀ (s : State) (r i : Nat), r < s.cfg.numRb → i < s.cfg.cap →
    let B := s.ring r
    let j := (B.start + i) % s.cfg.cap
    exec (.rbGet r i) s = .next { s with res0 := B.slot.getD j 0 } ∧
    exec (.rbSet r i) s = .next { s with rb := s.rb.set r { B with slot := B.slot.set j s.arg0 } }

/-! ### Filters -/

/-- R170: a shift puts the new sample at live element 0, moves each old one on, drops the oldest and keeps the length,
for every length up to N − 2; it is `rb_push_front`, then `rb_pop_back`. -/
def Obligations.ShiftDropsTheOldestSample : Prop :=
  ∀ (n : Nat) (B : Ring) (v : Word), B.Wf n → 1 ≤ B.length n → B.length n ≤ n - 2 →
    filtShift n B v = ((B.pushFront n v).popBack n).2 ∧
    (filtShift n B v).live n = v :: (B.live n).dropLast ∧ (filtShift n B v).length n = B.length n

/-- COEF_WR stages ARG0 at its index of its array and changes nothing else (R180). -/
def Obligations.CoefWrStagesOneCoefficient : Prop :=
  ∀ (s : State) (i : Nat), i ≤ s.cfg.maxOrder →
    exec (.coefWr .numer i) s = .next { s with stageB := s.stageB.set i s.arg0 } ∧
    exec (.coefWr .denom i) s = .next { s with stageA := s.stageA.set i s.arg0 }

/-- FILT_INIT copies entries 0 to `o` of the staging bank, zero-fills both histories, makes the filter valid, and
changes nothing else (R171, R181). -/
def Obligations.FiltInitCopiesTheStagingBank : Prop :=
  ∀ (s : State) (f o : Nat), s.Inv → f < s.cfg.numFilt → o ≤ s.cfg.maxOrder → isZero (s.stagedA 0) = false →
    ∃ t, exec (.filtInit f o) s = .next t ∧ Initialised s t f o ∧
      t = { s with filt := s.filt.set f (t.filter f) }

/-- FILT_VALUE computes the direct-form-I difference equation over the live lists, shifts both histories, and changes
nothing else but RES0 (R172, R173, R182; the count of draws is the model's own, assumption 6). -/
def Obligations.FiltValueIsTheDifferenceEquation : Prop :=
  ∀ (s : State) (f : Nat), s.Inv → f < s.cfg.numFilt → (s.filter f).valid = true →
    let x := s.arg0 :: (liveIn s f).dropLast
    let y := directForm s.nan (liveB s f) (liveA s f) x (liveOut s f)
    ∃ t, exec (.filtValue f) s = .next t ∧
      liveIn t f = x ∧ liveOut t f = y :: (liveOut s f).dropLast ∧
      liveB t f = liveB s f ∧ liveA t f = liveA s f ∧
      (t.filter f).valid = true ∧ (t.filter f).order = (s.filter f).order ∧
      t = { s with filt := s.filt.set f (t.filter f), res0 := y, draws := s.draws + (4 * (s.filter f).order + 3) }

/-- FILT_LAST reads the newest output and changes nothing else; FILT_READ reads each coefficient, each history element
and the configuration (R174, R183, R186). -/
def Obligations.FilterReads : Prop :=
  ∀ (s : State) (f : Nat), s.Inv → f < s.cfg.numFilt →
    exec (.filtRead f 0 4) s =
      .next { s with res0 := BitVec.ofNat 32 ((if (s.filter f).valid then 256 else 0) + (s.filter f).order) } ∧
    ((s.filter f).valid = true →
      exec (.filtLast f) s = .next { s with res0 := (liveOut s f).headD 0 } ∧
      ∀ i, i ≤ (s.filter f).order →
        exec (.filtRead f i 0) s = .next { s with res0 := (liveB s f).getD i 0 } ∧
        exec (.filtRead f i 1) s = .next { s with res0 := (liveA s f).getD i 0 } ∧
        exec (.filtRead f i 2) s = .next { s with res0 := (liveIn s f).getD i 0 } ∧
        exec (.filtRead f i 3) s = .next { s with res0 := (liveOut s f).getD i 0 })

/-- R175: FILT_SETTO overwrites every element of both histories with ARG0, and nothing else changes. -/
def Obligations.FiltSettoFillsBothHistories : Prop :=
  ∀ (s : State) (f : Nat), s.Inv → f < s.cfg.numFilt → (s.filter f).valid = true →
    let k := (s.filter f).order + 1
    ∃ t, exec (.filtSetto f) s = .next t ∧
      liveIn t f = List.replicate k s.arg0 ∧ liveOut t f = List.replicate k s.arg0 ∧
      t = { s with
        filt := s.filt.set f { s.filter f with bufIn := (t.filter f).bufIn, bufOut := (t.filter f).bufOut } }

/-- FILT_SHIFTBY adds ARG0 to every element of both histories, each rounded on its own, and nothing else changes (R176;
the numbering of the draws is the model's own, assumption 6). -/
def Obligations.FiltShiftbyAddsToBothHistories : Prop :=
  ∀ (s : State) (f : Nat), s.Inv → f < s.cfg.numFilt → (s.filter f).valid = true →
    ∃ t, exec (.filtShiftby f) s = .next t ∧
      liveIn t f = (liveIn s f).mapIdx (fun i w => fadd (s.nan (2 * i)) w s.arg0) ∧
      liveOut t f = (liveOut s f).mapIdx (fun i w => fadd (s.nan (2 * i + 1)) w s.arg0) ∧
      t = { s with
        filt := s.filt.set f { s.filter f with bufIn := (t.filter f).bufIn, bufOut := (t.filter f).bufOut },
        draws := s.draws + 2 * ((s.filter f).order + 1) }

/-! ### Controllers -/

/-- CTRL_INIT initialises the controller and its filter and changes nothing else (R260). -/
def Obligations.CtrlInitMakesControllerAndFilter : Prop :=
  ∀ (s : State) (c o : Nat) (m : SelRule), s.Inv → c < s.cfg.numCtrl → o ≤ s.cfg.maxOrder →
    isZero (s.stagedA 0) = false →
    ∃ t, exec (.ctrlInit c o m) s = .next t ∧ Initialised s t c o ∧
      t = { s with
        filt := s.filt.set c (t.filter c),
        ctrl := s.ctrl.set c ⟨true, s.arg0, s.arg1, 0, 0, .pos, m⟩ }

/-- CTRL_SET_POS clears the velocity target, scales the position target by the period and selects POS; CTRL_SET_VEL sets
the velocity target, keeps the position target and selects VEL (R261, R262; the draw's number is the model's own,
assumption 6). -/
def Obligations.SetTargets : Prop :=
  ∀ (s : State) (c : Nat), c < s.cfg.numCtrl → (s.controller c).valid = true →
    let C := s.controller c
    exec (.ctrlSetPos c) s = .next { s with
      ctrl := s.ctrl.set c
        { C with targetVel := 0, targetPos := fmul (Config.nanDraw s.draws) s.arg0 C.period, mode := .pos },
      draws := s.draws + 1 } ∧
    exec (.ctrlSetVel c) s = .next { s with ctrl := s.ctrl.set c { C with targetVel := s.arg0, mode := .vel } }

/-- CTRL_UPDATE: RES1 and the filter are those FILT_VALUE gives on the measurement, RES0 is Kp × (target − filtered) with
the target of R250, and no controller field changes (R250, R251, R263; the numbering of the draws is the model's own,
assumption 6). -/
def Obligations.CtrlUpdateIsProportionalOnTheFilteredMeasurement : Prop :=
  ∀ (s : State) (c : Nat), s.Inv → c < s.cfg.numCtrl → (s.controller c).valid = true →
    let C := s.controller c
    let nan := fun k => s.nan (4 * (s.filter c).order + 3 + k)
    let velocity := (C.sel = .sign ∧ fgt C.targetVel 0 = true) ∨ (C.sel = .mode ∧ C.mode = .vel)
    ∃ u t target, exec (.filtValue c) s = .next u ∧ exec (.ctrlUpdate c) s = .next t ∧
      (velocity → target = fadd (nan 1) s.arg0 (fmul (nan 0) s.arg1 C.targetVel)) ∧
      (¬ velocity → target = C.targetPos) ∧
      t = { s with
        filt := u.filt, res1 := u.res0,
        res0 := fmul (nan 3) C.kp (fsub (nan 2) target u.res0), draws := s.draws + (4 * (s.filter c).order + 7) }

/-- CTRL_LAST, CTRL_SETTO and CTRL_SHIFTBY delegate to the wrapped filter: they complete with exactly the effect of the
filter's own commands (R264, R265, R266, with the invariant R42). -/
def Obligations.CtrlDelegatesToItsFilter : Prop :=
  ∀ (s : State) (c : Nat), s.Inv → c < s.cfg.numCtrl → (s.controller c).valid = true →
    (∃ t, exec (.ctrlLast c) s = .next t ∧ exec (.filtLast c) s = .next t) ∧
    (∃ t, exec (.ctrlSetto c) s = .next t ∧ exec (.filtSetto c) s = .next t) ∧
    (∃ t, exec (.ctrlShiftby c) s = .next t ∧ exec (.filtShiftby c) s = .next t)

/-- CTRL_READ reads each field, valid or not, and changes nothing else (R267). -/
def Obligations.CtrlReadReadsEachField : Prop :=
  ∀ (s : State) (c : Nat), c < s.cfg.numCtrl →
    let C := s.controller c
    exec (.ctrlRead c 0) s = .next { s with res0 := C.kp } ∧
    exec (.ctrlRead c 1) s = .next { s with res0 := C.period } ∧
    exec (.ctrlRead c 2) s = .next { s with res0 := C.targetPos } ∧
    exec (.ctrlRead c 3) s = .next { s with res0 := C.targetVel } ∧
    exec (.ctrlRead c 4) s = .next { s with res0 := bits3 (decide (C.sel = .mode)) (decide (C.mode = .vel)) C.valid }

/-- With the sign rule, a CTRL_SET_VEL of a value not above zero, on a controller already in position mode, is as if it
had not been issued: an update right after it, on any operands, gives the same results and filter, and every run whose
accesses do not read the controller's TVEL or CFG goes the same way with it and without it, the states agreeing at every
step in all but that controller's velocity target and mode (R250, R268 item 2). A controller already tracking a velocity
above zero is left out: there the command ends the tracking by R250 and R262, and R268 item 2 taken literally fails
(assumption 23). The list of events is the model's own (assumption 1), and the bits of a NaN and the pin levels are the
same in the two runs because the model numbers the draws, and the two runs number them alike (assumptions 5, 6, 7). -/
def Obligations.NonPositiveVelocityKeepsPositionMode : Prop :=
  ∀ (s u : State) (c : Nat), s.Inv → c < s.cfg.numCtrl → (s.controller c).valid = true →
    (s.controller c).sel = .sign → fgt (s.controller c).targetVel 0 = false → fgt s.arg0 0 = false →
    exec (.ctrlSetVel c) s = .next u →
    (∀ m dt : Word, ∃ t t', exec (.ctrlUpdate c) { s with arg0 := m, arg1 := dt } = .next t ∧
      exec (.ctrlUpdate c) { u with arg0 := m, arg1 := dt } = .next t' ∧
      t'.res0 = t.res0 ∧ t'.res1 = t.res1 ∧ t'.filt = t.filt) ∧
    (commandEvent s.cfg (encode (.ctrlRead c 3)) ∉ s.agenda → commandEvent s.cfg (encode (.ctrlRead c 4)) ∉ s.agenda →
      ∀ k, (∀ t, run k s = .next t → ∃ t', run k u = .next t' ∧ AlikeButVelocity c t t') ∧
        (∀ r, run k s = .fault r → run k u = .fault r))

/-! ### Quadrature -/

/-- The complete table of R212, and what R211 saves: with consistent saved levels (R44), a sample (x, b) counts exactly
when one of A and B differs from its saved level, up along (0,0)→(1,0)→(1,1)→(0,1)→(0,0) and down against it, and then
saves its levels; any other sample counts nothing and saves its levels only with QD_SAVE_ON_NOEDGE. -/
def Obligations.SampleCountsByTheGrayCodeTable : Prop :=
  ∀ (save : Bool) (q : Quad) (a b : Bool), q.Wf →
    let up := (q.aLast, q.bLast, a, b) ∈ [(false, false, true, false), (true, false, true, true),
      (true, true, false, true), (false, true, false, false)]
    let down := (q.aLast, q.bLast, a, b) ∈ [(false, false, false, true), (false, true, true, true),
      (true, true, true, false), (true, false, false, false)]
    let q' := qdSample save q (a ^^ b) b
    (up → q' = { q with aLast := a, bLast := b, xLast := a ^^ b, count := q.count + 1 }) ∧
    (down → q' = { q with aLast := a, bLast := b, xLast := a ^^ b, count := q.count - 1 }) ∧
    (¬ up → ¬ down → q' = if save then { q with aLast := a, bLast := b } else q)

/-- R219, on either side: a full forward Gray cycle of sample events from saved levels (0, 0) adds 4 to the count and a
full reversed one takes 4 away, from any count, modulo 2^32, and nothing else changes but the list of events
(assumption 1). -/
def Obligations.FullCycleCountsFour : Prop :=
  ∀ (s : State) (sd : Side) (rest : List Event), configLegal s.cfg = true → s.resetHeld = false →
    (s.quad sd).aLast = false → (s.quad sd).bLast = false → (s.quad sd).xLast = false →
    let after := fun n : Word => ({ s with agenda := rest } : State).setQuad sd { s.quad sd with count := n }
    (s.agenda = [.sample sd true false, .sample sd false true, .sample sd true true, .sample sd false false] ++ rest →
      run 4 s = .next (after ((s.quad sd).count + 4))) ∧
    (s.agenda = [.sample sd true true, .sample sd false true, .sample sd true false, .sample sd false false] ++ rest →
      run 4 s = .next (after ((s.quad sd).count - 4)))

/-- QD_READ, QD_READ_BOTH, QD_ANGLE, QD_SET_SCALE and QD_STATE: results, and nothing else changed (R221 to R225; the
angle's draw number is the model's own, assumption 6). -/
def Obligations.QdReadsAndScale : Prop :=
  ∀ s : State,
    exec (.qdRead 0) s = .next { s with res0 := s.qdLeft.count } ∧
    exec (.qdRead 1) s = .next { s with res0 := s.qdRight.count } ∧
    exec .qdReadBoth s = .next { s with res0 := s.qdLeft.count, res1 := s.qdRight.count } ∧
    exec (.qdAngle 0) s = .next { s with
      res0 := fmul (Config.nanDraw s.draws) (i2f s.qdLeft.count.toInt) s.qdLeft.scale, draws := s.draws + 1 } ∧
    exec (.qdAngle 1) s = .next { s with
      res0 := fmul (Config.nanDraw s.draws) (i2f s.qdRight.count.toInt) s.qdRight.scale, draws := s.draws + 1 } ∧
    exec (.qdSetScale 0) s = .next { s with qdLeft := { s.qdLeft with scale := s.arg0 } } ∧
    exec (.qdSetScale 1) s = .next { s with qdRight := { s.qdRight with scale := s.arg0 } } ∧
    exec (.qdState 0) s = .next { s with res0 := bits3 s.qdLeft.xLast s.qdLeft.bLast s.qdLeft.aLast } ∧
    exec (.qdState 1) s = .next { s with res0 := bits3 s.qdRight.xLast s.qdRight.bLast s.qdRight.aLast }

/-- QD_INIT takes the pin levels of a draw into the saved levels, zeroes the count and keeps SCALE; a sample of the same
levels then counts nothing (R216, R220; the draw's number is the model's own, assumption 5). -/
def Obligations.QdInitTakesThePinLevels : Prop :=
  ∀ s : State,
    let p := Config.pinDraw s.draws
    let fresh := fun q : Quad => { q with aLast := p.x ^^ p.b, bLast := p.b, xLast := p.x, count := 0 }
    exec (.qdInit 0) s = .next { s with qdLeft := fresh s.qdLeft, draws := s.draws + 1 } ∧
    exec (.qdInit 1) s = .next { s with qdRight := fresh s.qdRight, draws := s.draws + 1 } ∧
    ∀ (save : Bool) (q : Quad), qdSample save (fresh q) p.x p.b = fresh q

/-- QD_INJECT acts exactly as a sample event of the environment with the same sample, and both complete (R211, R226;
the list of events is the model's own, assumption 1). -/
def Obligations.InjectIsASampleEvent : Prop :=
  ∀ (s : State) (x b : Bool),
    let next := fun q : Quad => qdSample s.cfg.qdSaveOnNoEdge q x b
    exec (.qdInject 0 x b) s = .next { s with qdLeft := next s.qdLeft } ∧
    exec (.qdInject 1 x b) s = .next { s with qdRight := next s.qdRight } ∧
    ∀ (n : Nat) (sd : Side) (rest : List Event), sideOf n = some sd → Next s (.sample sd x b) rest →
      step s = exec (.qdInject n x b) { s with agenda := rest }

/-! ### Time and flags -/

/-- `n` ticks advance the time by `n` fine ticks, modulo 2^32 milliseconds, keep the fine count in range, and change
nothing else (R291) but the list of events (assumption 1). -/
def Obligations.TicksAddUp : Prop :=
  ∀ (s : State) (n : Nat) (rest : List Event), configLegal s.cfg = true → s.resetHeld = false →
    s.time.fine.toNat < s.cfg.ticksPerMs → s.agenda = List.replicate n .tick ++ rest →
    ∃ t, run n s = .next t ∧ t = { s with agenda := rest, time := t.time } ∧
      t.time.fine.toNat < s.cfg.ticksPerMs ∧
      totalTicks s.cfg.ticksPerMs t.time =
        (totalTicks s.cfg.ticksPerMs s.time + n) % (2 ^ 32 * s.cfg.ticksPerMs)

/-- A tick, alone: the two cases of R291. The step takes the tick off the list of events (assumption 1). -/
def Obligations.TickAdvancesTheTimePoint : Prop :=
  ∀ (s : State) (rest : List Event), Next s .tick rest →
    (s.time.fine.toNat + 1 = s.cfg.ticksPerMs →
      step s = .next { s with agenda := rest, time := ⟨s.time.coarse + 1, 0⟩ }) ∧
    (s.time.fine.toNat + 1 ≠ s.cfg.ticksPerMs →
      step s = .next { s with agenda := rest, time := ⟨s.time.coarse, s.time.fine + 1⟩ })

/-- R293: the flag predicate is the exact comparison of the rational elapsed time with the value of the duration; NaN
and +∞ never fire, −∞ fires if active. -/
def Obligations.FlagPredicateIsExact : Prop :=
  ∀ (F : Nat) (now : TimePoint) (G : Flag), 0 < F →
    (flagExecute F now G = true ↔ G.active = true ∧
      ((Finite G.duration ∧ valQ G.duration ≤ (elapsedTicks F now G.last : ℚ) / (1000 * F)) ∨
       G.duration = 0xFF800000))

/-- A poll after `n` more ticks: an active flag with a finite duration reads 1 exactly when the elapsed ticks and `n`
together reach the duration, while the elapsed time stays clear of the counter's wrap (R291, R292, R293, R303; the
list of events is the model's own, assumption 1). -/
def Obligations.PollAfterTicksFiresWhenDue : Prop :=
  ∀ (s : State) (g n : Nat) (rest : List Event), s.Inv → s.resetHeld = false → g < s.cfg.numFlag →
    (s.flag g).active = true → Finite (s.flag g).duration →
    0 ≤ elapsed s g → elapsed s g + n ≤ (2 ^ 32 - 1) * (s.cfg.ticksPerMs : Int) →
    s.agenda = List.replicate n .tick ++ commandEvent s.cfg (encode (.flagPoll g)) :: rest →
    ∃ t, run (n + 1) s = .next t ∧
      t = { s with agenda := rest, time := t.time, res0 := t.res0 } ∧
      t.res0 = if valQ (s.flag g).duration * (1000 * s.cfg.ticksPerMs) ≤ ((elapsed s g + n : Int) : ℚ) then 1 else 0

/-- TIME_READ, FLAG_POLL and FLAG_READ: results, and nothing else changed (R300, R303, R305). -/
def Obligations.TimeAndFlagReads : Prop :=
  ∀ s : State,
    exec .timeRead s = .next { s with res0 := s.time.coarse, res1 := BitVec.ofNat 32 s.time.fine.toNat } ∧
    ∀ g, g < s.cfg.numFlag →
      let G := s.flag g
      exec (.flagPoll g) s =
        .next { s with res0 := if flagExecute s.cfg.ticksPerMs s.time G = true then 1 else 0 } ∧
      exec (.flagRead g 0) s = .next { s with res0 := if G.active then 1 else 0 } ∧
      exec (.flagRead g 1) s = .next { s with res0 := G.duration } ∧
      exec (.flagRead g 2) s = .next { s with res0 := G.last.coarse } ∧
      exec (.flagRead g 3) s = .next { s with res0 := BitVec.ofNat 32 G.last.fine.toNat } ∧
      exec (.flagRead g 4) s = .next { s with res0 := BitVec.ofNat 32 (G.cmd.toNat + 256 * G.subcmd.toNat) }

/-- FLAG_ARM, FLAG_CANCEL, FLAG_DONE and FLAG_DEFAULT: the flag after, and nothing else changed (R301, R302, R304,
R306). -/
def Obligations.FlagCommandsSetTheirFields : Prop :=
  ∀ (s : State) (g : Nat) (subcmd cmd : Byte), g < s.cfg.numFlag →
    let G := s.flag g
    exec (.flagArm g subcmd cmd) s = .next { s with
      flags := s.flags.set g ⟨true, s.arg0, G.last, cmd, subcmd⟩ } ∧
    exec (.flagCancel g) s = .next { s with
      flags := s.flags.set g ⟨false, 0xBF800000, G.last, G.cmd, G.subcmd⟩ } ∧
    (fgt G.duration 0 = true → exec (.flagDone g) s = .next { s with
      flags := s.flags.set g ⟨G.active, G.duration, s.time, G.cmd, G.subcmd⟩ }) ∧
    (fgt G.duration 0 = false → exec (.flagDone g) s = .next { s with
      flags := s.flags.set g ⟨false, G.duration, G.last, G.cmd, G.subcmd⟩ }) ∧
    exec (.flagDefault g) s = .next { s with
      flags := s.flags.set g ⟨false, 0xBF800000, ⟨0, 0⟩, 0, 0⟩ }

/-- R308: a one-shot armed with −1.0 polls 1, and after FLAG_DONE it is Idle and polls 0, from every state whose elapsed
time for the flag is not negative. -/
def Obligations.OneShotFiresOnce : Prop :=
  ∀ (s : State) (g : Nat) (subcmd cmd : Byte), s.Inv → g < s.cfg.numFlag → s.arg0 = 0xBF800000 → 0 ≤ elapsed s g →
    ∃ t1 t2 t3 t4, exec (.flagArm g subcmd cmd) s = .next t1 ∧ exec (.flagPoll g) t1 = .next t2 ∧ t2.res0 = 1 ∧
      exec (.flagDone g) t2 = .next t3 ∧ (t3.flag g).active = false ∧
      exec (.flagPoll g) t3 = .next t4 ∧ t4.res0 = 0

/-- R294: an Idle flag stays Idle through every command but a FLAG_ARM of that flag, and through every step of any agent
but the write of such a command to CMD (any other access, command or event, a change of the reset input included); and an
idle flag polls 0. -/
def Obligations.IdleFlagStaysIdle : Prop :=
  ∀ (s : State) (g : Nat), s.Inv → g < s.cfg.numFlag → (s.flag g).active = false →
    (∀ (i : Instr) (t : State), (∀ subcmd cmd, i ≠ .flagArm g subcmd cmd) → exec i s = .next t →
      (t.flag g).active = false) ∧
    (∀ t : State, (∀ subcmd cmd rest, s.agenda ≠ commandEvent s.cfg (encode (.flagArm g subcmd cmd)) :: rest) →
      step s = .next t → (t.flag g).active = false) ∧
    exec (.flagPoll g) s = .next { s with res0 := 0 }

/-! ### Binary32 -/

/-- `FADD` and `FSUB` of finite values are the correctly rounded exact sum and difference (R11). -/
def Obligations.AdditionIsCorrectlyRounded : Prop :=
  ∀ d p q : Word, Finite p → Finite q →
    CorrectlyRounded (valQ p + valQ q) (fadd d p q) ∧ CorrectlyRounded (valQ p - valQ q) (fsub d p q)

/-- `FMUL` and `FDIV` of finite values, the divisor not zero, are the correctly rounded exact product and quotient, and
`I2F` of a signed 32-bit integer its correctly rounded value (R11). -/
def Obligations.ProductQuotientAndConversionAreCorrectlyRounded : Prop :=
  (∀ d p q : Word, Finite p → Finite q → CorrectlyRounded (valQ p * valQ q) (fmul d p q)) ∧
  (∀ d p q : Word, Finite p → Finite q → valQ q ≠ 0 → CorrectlyRounded (valQ p / valQ q) (fdiv d p q)) ∧
  (∀ n : Int, -(2 ^ 31) ≤ n → n < 2 ^ 31 → CorrectlyRounded (n : ℚ) (i2f n))

/-- The special values of R11 and R15, for every sign: a NaN operand, ∞−∞, 0×∞, 0/0 and ∞/∞ give a NaN, a nonzero
finite value over zero gives an infinity, a NaN result is a NaN pattern whatever the draw, and every NaN pattern is one
a draw gives. The other results with an infinity, and the signs of infinite and of exact zero results, are taken from
IEEE 754 (assumption 8). -/
def Obligations.SpecialValues : Prop :=
  (∀ d p q : Word, isNaN p = true ∨ isNaN q = true →
    isNaN (fadd d p q) = true ∧ isNaN (fsub d p q) = true ∧ isNaN (fmul d p q) = true ∧ isNaN (fdiv d p q) = true) ∧
  (∀ (d : Word) (a b : Bool),
    fadd d (infW a) (infW b) = (if a = b then infW a else nanOf d) ∧
    fsub d (infW a) (infW b) = (if a = b then nanOf d else infW a) ∧
    fmul d (infW a) (infW b) = infW (a ^^ b) ∧ fdiv d (infW a) (infW b) = nanOf d ∧
    fmul d (zeroW a) (infW b) = nanOf d ∧ fmul d (infW a) (zeroW b) = nanOf d ∧
    fdiv d (zeroW a) (zeroW b) = nanOf d) ∧
  (∀ (d p : Word) (a : Bool), Finite p →
    let m := p.getLsbD 31
    fadd d (infW a) p = infW a ∧ fadd d p (infW a) = infW a ∧
    fsub d (infW a) p = infW a ∧ fsub d p (infW a) = infW (!a) ∧
    fdiv d (infW a) p = infW (a ^^ m) ∧ fdiv d p (infW a) = zeroW (m ^^ a) ∧
    (isZero p = false →
      fmul d (infW a) p = infW (a ^^ m) ∧ fmul d p (infW a) = infW (m ^^ a) ∧ fdiv d p (zeroW a) = infW (m ^^ a))) ∧
  (∀ d p q : Word, Finite p → Finite q →
    let m := p.getLsbD 31
    let n := q.getLsbD 31
    (valQ p + valQ q = 0 → fadd d p q = zeroW (m && n)) ∧ (valQ p - valQ q = 0 → fsub d p q = zeroW (m && !n)) ∧
    (valQ p * valQ q = 0 → fmul d p q = zeroW (m ^^ n)) ∧
    (valQ p = 0 → valQ q ≠ 0 → fdiv d p q = zeroW (m ^^ n))) ∧
  (∀ w : Word, isNaN w = true ↔ expField w = 255 ∧ fracField w ≠ 0) ∧
  (∀ d : Word, isNaN (nanOf d) = true) ∧ (∀ w : Word, isNaN w = true → nanOf w = w)

/-- `FGT` and `FLE` compare the values of finite words, order the infinities around them and against each other, and are
false of a NaN; so neither zero is above the other (R12, R13). -/
def Obligations.ComparisonsFollowTheValues : Prop :=
  (∀ p q : Word, Finite p → Finite q →
    (fgt p q = true ↔ valQ q < valQ p) ∧ (fle p q = true ↔ valQ p ≤ valQ q)) ∧
  (∀ p q : Word, isNaN p = true ∨ isNaN q = true → fgt p q = false ∧ fle p q = false) ∧
  (∀ (p : Word) (a : Bool), Finite p → fgt (infW a) p = !a ∧ fgt p (infW a) = a ∧ fle (infW a) p = a ∧
    fle p (infW a) = !a) ∧
  (∀ a b : Bool, fgt (infW a) (infW b) = (!a && b) ∧ fle (infW a) (infW b) = (a || !b)) ∧
  (∀ w : Word, isZero w = true ↔ w = 0x00000000 ∨ w = 0x80000000)
end

