-- ==== Sys2Proof/Laws/Encoding.lean ====
section
/-! SUPPORT. The fields of a packed word, and numbers in 8-bit fields. -/

namespace Sys2Proof

@[simp] theorem opcOf_pack (a b c d : Byte) : opcOf (pack a b c d) = a := by
  apply BitVec.eq_of_getLsbD_eq; intro i hi
  simp only [opcOf, pack, BitVec.getLsbD_extractLsb', BitVec.getLsbD_append]
  simp [hi, show ¬ 24 + i < 8 by omega, show ¬ 24 + i - 8 < 8 by omega, show ¬ 24 + i - 8 - 8 < 8 by omega,
    show 24 + i - 8 - 8 - 8 = i by omega]

@[simp] theorem instOf_pack (a b c d : Byte) : instOf (pack a b c d) = b := by
  apply BitVec.eq_of_getLsbD_eq; intro i hi
  simp only [instOf, pack, BitVec.getLsbD_extractLsb', BitVec.getLsbD_append]
  simp [hi, show ¬ 16 + i < 8 by omega, show ¬ 16 + i - 8 < 8 by omega, show 16 + i - 8 - 8 = i by omega]

@[simp] theorem idxOf_pack (a b c d : Byte) : idxOf (pack a b c d) = c := by
  apply BitVec.eq_of_getLsbD_eq; intro i hi
  simp only [idxOf, pack, BitVec.getLsbD_extractLsb', BitVec.getLsbD_append]
  simp [hi, show ¬ 8 + i < 8 by omega, show 8 + i - 8 = i by omega]

@[simp] theorem auxOf_pack (a b c d : Byte) : auxOf (pack a b c d) = d := by
  apply BitVec.eq_of_getLsbD_eq; intro i hi
  simp only [auxOf, pack, BitVec.getLsbD_extractLsb', BitVec.getLsbD_append]
  simp [hi]

/-- A word is its four fields (R100). -/
theorem pack_fields (w : Word) : pack (opcOf w) (instOf w) (idxOf w) (auxOf w) = w := by
  apply BitVec.eq_of_getLsbD_eq; intro i hi
  simp only [pack, opcOf, instOf, idxOf, auxOf, BitVec.getLsbD_append, BitVec.getLsbD_extractLsb']
  by_cases h1 : i < 8
  · simp [h1]
  by_cases h2 : i - 8 < 8
  · simp [h1, h2, show 8 + (i - 8) = i by omega]
  by_cases h3 : i - 8 - 8 < 8
  · simp [h1, h2, h3, show 16 + (i - 8 - 8) = i by omega]
  · simp [h1, h2, h3, show i - 8 - 8 - 8 < 8 by omega, show 24 + (i - 8 - 8 - 8) = i by omega]

/-- A number that fits a field is read back from it (R101). -/
theorem field_toNat {n : Nat} (h : n < 256) : (field n).toNat = n := by
  simp only [field, BitVec.toNat_ofNat]; omega

@[simp] theorem field_of_toNat (b : Byte) : field b.toNat = b := by
  simp [field]

end Sys2Proof
end

