-- ==== Sys2Proof/Laws/State.lean ====
section
/-! SUPPORT. One lemma for each field after each update of the state, and the elements read after one is written. -/

namespace Sys2Proof.Machine

variable (s : State)

/-! ### setRing -/

@[simp] theorem State.setRing_cfg (r : Nat) (B : Ring) : (s.setRing r B).cfg = s.cfg := rfl
@[simp] theorem State.setRing_arg0 (r : Nat) (B : Ring) : (s.setRing r B).arg0 = s.arg0 := rfl
@[simp] theorem State.setRing_arg1 (r : Nat) (B : Ring) : (s.setRing r B).arg1 = s.arg1 := rfl
@[simp] theorem State.setRing_res0 (r : Nat) (B : Ring) : (s.setRing r B).res0 = s.res0 := rfl
@[simp] theorem State.setRing_res1 (r : Nat) (B : Ring) : (s.setRing r B).res1 = s.res1 := rfl
@[simp] theorem State.setRing_status (r : Nat) (B : Ring) : (s.setRing r B).status = s.status := rfl
@[simp] theorem State.setRing_rb (r : Nat) (B : Ring) : (s.setRing r B).rb = s.rb.set r B := rfl
@[simp] theorem State.setRing_stageB (r : Nat) (B : Ring) : (s.setRing r B).stageB = s.stageB := rfl
@[simp] theorem State.setRing_stageA (r : Nat) (B : Ring) : (s.setRing r B).stageA = s.stageA := rfl
@[simp] theorem State.setRing_filt (r : Nat) (B : Ring) : (s.setRing r B).filt = s.filt := rfl
@[simp] theorem State.setRing_ctrl (r : Nat) (B : Ring) : (s.setRing r B).ctrl = s.ctrl := rfl
@[simp] theorem State.setRing_qdLeft (r : Nat) (B : Ring) : (s.setRing r B).qdLeft = s.qdLeft := rfl
@[simp] theorem State.setRing_qdRight (r : Nat) (B : Ring) : (s.setRing r B).qdRight = s.qdRight := rfl
@[simp] theorem State.setRing_time (r : Nat) (B : Ring) : (s.setRing r B).time = s.time := rfl
@[simp] theorem State.setRing_flags (r : Nat) (B : Ring) : (s.setRing r B).flags = s.flags := rfl
@[simp] theorem State.setRing_resetHeld (r : Nat) (B : Ring) : (s.setRing r B).resetHeld = s.resetHeld := rfl
@[simp] theorem State.setRing_agenda (r : Nat) (B : Ring) : (s.setRing r B).agenda = s.agenda := rfl
@[simp] theorem State.setRing_observed (r : Nat) (B : Ring) : (s.setRing r B).observed = s.observed := rfl
@[simp] theorem State.setRing_readData (r : Nat) (B : Ring) : (s.setRing r B).readData = s.readData := rfl
@[simp] theorem State.setRing_draws (r : Nat) (B : Ring) : (s.setRing r B).draws = s.draws := rfl

/-! ### setFilter -/

@[simp] theorem State.setFilter_cfg (f : Nat) (F : Filt) : (s.setFilter f F).cfg = s.cfg := rfl
@[simp] theorem State.setFilter_arg0 (f : Nat) (F : Filt) : (s.setFilter f F).arg0 = s.arg0 := rfl
@[simp] theorem State.setFilter_arg1 (f : Nat) (F : Filt) : (s.setFilter f F).arg1 = s.arg1 := rfl
@[simp] theorem State.setFilter_res0 (f : Nat) (F : Filt) : (s.setFilter f F).res0 = s.res0 := rfl
@[simp] theorem State.setFilter_res1 (f : Nat) (F : Filt) : (s.setFilter f F).res1 = s.res1 := rfl
@[simp] theorem State.setFilter_status (f : Nat) (F : Filt) : (s.setFilter f F).status = s.status := rfl
@[simp] theorem State.setFilter_rb (f : Nat) (F : Filt) : (s.setFilter f F).rb = s.rb := rfl
@[simp] theorem State.setFilter_stageB (f : Nat) (F : Filt) : (s.setFilter f F).stageB = s.stageB := rfl
@[simp] theorem State.setFilter_stageA (f : Nat) (F : Filt) : (s.setFilter f F).stageA = s.stageA := rfl
@[simp] theorem State.setFilter_filt (f : Nat) (F : Filt) : (s.setFilter f F).filt = s.filt.set f F := rfl
@[simp] theorem State.setFilter_ctrl (f : Nat) (F : Filt) : (s.setFilter f F).ctrl = s.ctrl := rfl
@[simp] theorem State.setFilter_qdLeft (f : Nat) (F : Filt) : (s.setFilter f F).qdLeft = s.qdLeft := rfl
@[simp] theorem State.setFilter_qdRight (f : Nat) (F : Filt) : (s.setFilter f F).qdRight = s.qdRight := rfl
@[simp] theorem State.setFilter_time (f : Nat) (F : Filt) : (s.setFilter f F).time = s.time := rfl
@[simp] theorem State.setFilter_flags (f : Nat) (F : Filt) : (s.setFilter f F).flags = s.flags := rfl
@[simp] theorem State.setFilter_resetHeld (f : Nat) (F : Filt) : (s.setFilter f F).resetHeld = s.resetHeld := rfl
@[simp] theorem State.setFilter_agenda (f : Nat) (F : Filt) : (s.setFilter f F).agenda = s.agenda := rfl
@[simp] theorem State.setFilter_observed (f : Nat) (F : Filt) : (s.setFilter f F).observed = s.observed := rfl
@[simp] theorem State.setFilter_readData (f : Nat) (F : Filt) : (s.setFilter f F).readData = s.readData := rfl
@[simp] theorem State.setFilter_draws (f : Nat) (F : Filt) : (s.setFilter f F).draws = s.draws := rfl

/-! ### setController -/

@[simp] theorem State.setController_cfg (c : Nat) (C : Ctrl) : (s.setController c C).cfg = s.cfg := rfl
@[simp] theorem State.setController_arg0 (c : Nat) (C : Ctrl) : (s.setController c C).arg0 = s.arg0 := rfl
@[simp] theorem State.setController_arg1 (c : Nat) (C : Ctrl) : (s.setController c C).arg1 = s.arg1 := rfl
@[simp] theorem State.setController_res0 (c : Nat) (C : Ctrl) : (s.setController c C).res0 = s.res0 := rfl
@[simp] theorem State.setController_res1 (c : Nat) (C : Ctrl) : (s.setController c C).res1 = s.res1 := rfl
@[simp] theorem State.setController_status (c : Nat) (C : Ctrl) : (s.setController c C).status = s.status := rfl
@[simp] theorem State.setController_rb (c : Nat) (C : Ctrl) : (s.setController c C).rb = s.rb := rfl
@[simp] theorem State.setController_stageB (c : Nat) (C : Ctrl) : (s.setController c C).stageB = s.stageB := rfl
@[simp] theorem State.setController_stageA (c : Nat) (C : Ctrl) : (s.setController c C).stageA = s.stageA := rfl
@[simp] theorem State.setController_filt (c : Nat) (C : Ctrl) : (s.setController c C).filt = s.filt := rfl
@[simp] theorem State.setController_ctrl (c : Nat) (C : Ctrl) : (s.setController c C).ctrl = s.ctrl.set c C := rfl
@[simp] theorem State.setController_qdLeft (c : Nat) (C : Ctrl) : (s.setController c C).qdLeft = s.qdLeft := rfl
@[simp] theorem State.setController_qdRight (c : Nat) (C : Ctrl) : (s.setController c C).qdRight = s.qdRight := rfl
@[simp] theorem State.setController_time (c : Nat) (C : Ctrl) : (s.setController c C).time = s.time := rfl
@[simp] theorem State.setController_flags (c : Nat) (C : Ctrl) : (s.setController c C).flags = s.flags := rfl
@[simp] theorem State.setController_resetHeld (c : Nat) (C : Ctrl) : (s.setController c C).resetHeld = s.resetHeld := rfl
@[simp] theorem State.setController_agenda (c : Nat) (C : Ctrl) : (s.setController c C).agenda = s.agenda := rfl
@[simp] theorem State.setController_observed (c : Nat) (C : Ctrl) : (s.setController c C).observed = s.observed := rfl
@[simp] theorem State.setController_readData (c : Nat) (C : Ctrl) : (s.setController c C).readData = s.readData := rfl
@[simp] theorem State.setController_draws (c : Nat) (C : Ctrl) : (s.setController c C).draws = s.draws := rfl

/-! ### setFlag -/

@[simp] theorem State.setFlag_cfg (g : Nat) (G : Flag) : (s.setFlag g G).cfg = s.cfg := rfl
@[simp] theorem State.setFlag_arg0 (g : Nat) (G : Flag) : (s.setFlag g G).arg0 = s.arg0 := rfl
@[simp] theorem State.setFlag_arg1 (g : Nat) (G : Flag) : (s.setFlag g G).arg1 = s.arg1 := rfl
@[simp] theorem State.setFlag_res0 (g : Nat) (G : Flag) : (s.setFlag g G).res0 = s.res0 := rfl
@[simp] theorem State.setFlag_res1 (g : Nat) (G : Flag) : (s.setFlag g G).res1 = s.res1 := rfl
@[simp] theorem State.setFlag_status (g : Nat) (G : Flag) : (s.setFlag g G).status = s.status := rfl
@[simp] theorem State.setFlag_rb (g : Nat) (G : Flag) : (s.setFlag g G).rb = s.rb := rfl
@[simp] theorem State.setFlag_stageB (g : Nat) (G : Flag) : (s.setFlag g G).stageB = s.stageB := rfl
@[simp] theorem State.setFlag_stageA (g : Nat) (G : Flag) : (s.setFlag g G).stageA = s.stageA := rfl
@[simp] theorem State.setFlag_filt (g : Nat) (G : Flag) : (s.setFlag g G).filt = s.filt := rfl
@[simp] theorem State.setFlag_ctrl (g : Nat) (G : Flag) : (s.setFlag g G).ctrl = s.ctrl := rfl
@[simp] theorem State.setFlag_qdLeft (g : Nat) (G : Flag) : (s.setFlag g G).qdLeft = s.qdLeft := rfl
@[simp] theorem State.setFlag_qdRight (g : Nat) (G : Flag) : (s.setFlag g G).qdRight = s.qdRight := rfl
@[simp] theorem State.setFlag_time (g : Nat) (G : Flag) : (s.setFlag g G).time = s.time := rfl
@[simp] theorem State.setFlag_flags (g : Nat) (G : Flag) : (s.setFlag g G).flags = s.flags.set g G := rfl
@[simp] theorem State.setFlag_resetHeld (g : Nat) (G : Flag) : (s.setFlag g G).resetHeld = s.resetHeld := rfl
@[simp] theorem State.setFlag_agenda (g : Nat) (G : Flag) : (s.setFlag g G).agenda = s.agenda := rfl
@[simp] theorem State.setFlag_observed (g : Nat) (G : Flag) : (s.setFlag g G).observed = s.observed := rfl
@[simp] theorem State.setFlag_readData (g : Nat) (G : Flag) : (s.setFlag g G).readData = s.readData := rfl
@[simp] theorem State.setFlag_draws (g : Nat) (G : Flag) : (s.setFlag g G).draws = s.draws := rfl

/-! ### setRes0 -/

@[simp] theorem State.setRes0_cfg (v : Word) : (s.setRes0 v).cfg = s.cfg := rfl
@[simp] theorem State.setRes0_arg0 (v : Word) : (s.setRes0 v).arg0 = s.arg0 := rfl
@[simp] theorem State.setRes0_arg1 (v : Word) : (s.setRes0 v).arg1 = s.arg1 := rfl
@[simp] theorem State.setRes0_res0 (v : Word) : (s.setRes0 v).res0 = v := rfl
@[simp] theorem State.setRes0_res1 (v : Word) : (s.setRes0 v).res1 = s.res1 := rfl
@[simp] theorem State.setRes0_status (v : Word) : (s.setRes0 v).status = s.status := rfl
@[simp] theorem State.setRes0_rb (v : Word) : (s.setRes0 v).rb = s.rb := rfl
@[simp] theorem State.setRes0_stageB (v : Word) : (s.setRes0 v).stageB = s.stageB := rfl
@[simp] theorem State.setRes0_stageA (v : Word) : (s.setRes0 v).stageA = s.stageA := rfl
@[simp] theorem State.setRes0_filt (v : Word) : (s.setRes0 v).filt = s.filt := rfl
@[simp] theorem State.setRes0_ctrl (v : Word) : (s.setRes0 v).ctrl = s.ctrl := rfl
@[simp] theorem State.setRes0_qdLeft (v : Word) : (s.setRes0 v).qdLeft = s.qdLeft := rfl
@[simp] theorem State.setRes0_qdRight (v : Word) : (s.setRes0 v).qdRight = s.qdRight := rfl
@[simp] theorem State.setRes0_time (v : Word) : (s.setRes0 v).time = s.time := rfl
@[simp] theorem State.setRes0_flags (v : Word) : (s.setRes0 v).flags = s.flags := rfl
@[simp] theorem State.setRes0_resetHeld (v : Word) : (s.setRes0 v).resetHeld = s.resetHeld := rfl
@[simp] theorem State.setRes0_agenda (v : Word) : (s.setRes0 v).agenda = s.agenda := rfl
@[simp] theorem State.setRes0_observed (v : Word) : (s.setRes0 v).observed = s.observed := rfl
@[simp] theorem State.setRes0_readData (v : Word) : (s.setRes0 v).readData = s.readData := rfl
@[simp] theorem State.setRes0_draws (v : Word) : (s.setRes0 v).draws = s.draws := rfl

/-! ### setRes1 -/

@[simp] theorem State.setRes1_cfg (v : Word) : (s.setRes1 v).cfg = s.cfg := rfl
@[simp] theorem State.setRes1_arg0 (v : Word) : (s.setRes1 v).arg0 = s.arg0 := rfl
@[simp] theorem State.setRes1_arg1 (v : Word) : (s.setRes1 v).arg1 = s.arg1 := rfl
@[simp] theorem State.setRes1_res0 (v : Word) : (s.setRes1 v).res0 = s.res0 := rfl
@[simp] theorem State.setRes1_res1 (v : Word) : (s.setRes1 v).res1 = v := rfl
@[simp] theorem State.setRes1_status (v : Word) : (s.setRes1 v).status = s.status := rfl
@[simp] theorem State.setRes1_rb (v : Word) : (s.setRes1 v).rb = s.rb := rfl
@[simp] theorem State.setRes1_stageB (v : Word) : (s.setRes1 v).stageB = s.stageB := rfl
@[simp] theorem State.setRes1_stageA (v : Word) : (s.setRes1 v).stageA = s.stageA := rfl
@[simp] theorem State.setRes1_filt (v : Word) : (s.setRes1 v).filt = s.filt := rfl
@[simp] theorem State.setRes1_ctrl (v : Word) : (s.setRes1 v).ctrl = s.ctrl := rfl
@[simp] theorem State.setRes1_qdLeft (v : Word) : (s.setRes1 v).qdLeft = s.qdLeft := rfl
@[simp] theorem State.setRes1_qdRight (v : Word) : (s.setRes1 v).qdRight = s.qdRight := rfl
@[simp] theorem State.setRes1_time (v : Word) : (s.setRes1 v).time = s.time := rfl
@[simp] theorem State.setRes1_flags (v : Word) : (s.setRes1 v).flags = s.flags := rfl
@[simp] theorem State.setRes1_resetHeld (v : Word) : (s.setRes1 v).resetHeld = s.resetHeld := rfl
@[simp] theorem State.setRes1_agenda (v : Word) : (s.setRes1 v).agenda = s.agenda := rfl
@[simp] theorem State.setRes1_observed (v : Word) : (s.setRes1 v).observed = s.observed := rfl
@[simp] theorem State.setRes1_readData (v : Word) : (s.setRes1 v).readData = s.readData := rfl
@[simp] theorem State.setRes1_draws (v : Word) : (s.setRes1 v).draws = s.draws := rfl

/-! ### spend -/

@[simp] theorem State.spend_cfg (k : Nat) : (s.spend k).cfg = s.cfg := rfl
@[simp] theorem State.spend_arg0 (k : Nat) : (s.spend k).arg0 = s.arg0 := rfl
@[simp] theorem State.spend_arg1 (k : Nat) : (s.spend k).arg1 = s.arg1 := rfl
@[simp] theorem State.spend_res0 (k : Nat) : (s.spend k).res0 = s.res0 := rfl
@[simp] theorem State.spend_res1 (k : Nat) : (s.spend k).res1 = s.res1 := rfl
@[simp] theorem State.spend_status (k : Nat) : (s.spend k).status = s.status := rfl
@[simp] theorem State.spend_rb (k : Nat) : (s.spend k).rb = s.rb := rfl
@[simp] theorem State.spend_stageB (k : Nat) : (s.spend k).stageB = s.stageB := rfl
@[simp] theorem State.spend_stageA (k : Nat) : (s.spend k).stageA = s.stageA := rfl
@[simp] theorem State.spend_filt (k : Nat) : (s.spend k).filt = s.filt := rfl
@[simp] theorem State.spend_ctrl (k : Nat) : (s.spend k).ctrl = s.ctrl := rfl
@[simp] theorem State.spend_qdLeft (k : Nat) : (s.spend k).qdLeft = s.qdLeft := rfl
@[simp] theorem State.spend_qdRight (k : Nat) : (s.spend k).qdRight = s.qdRight := rfl
@[simp] theorem State.spend_time (k : Nat) : (s.spend k).time = s.time := rfl
@[simp] theorem State.spend_flags (k : Nat) : (s.spend k).flags = s.flags := rfl
@[simp] theorem State.spend_resetHeld (k : Nat) : (s.spend k).resetHeld = s.resetHeld := rfl
@[simp] theorem State.spend_agenda (k : Nat) : (s.spend k).agenda = s.agenda := rfl
@[simp] theorem State.spend_observed (k : Nat) : (s.spend k).observed = s.observed := rfl
@[simp] theorem State.spend_readData (k : Nat) : (s.spend k).readData = s.readData := rfl
@[simp] theorem State.spend_draws (k : Nat) : (s.spend k).draws = s.draws + k := rfl

/-! ### raise -/

@[simp] theorem State.raise_cfg (code : ErrCode) (info : Byte) : (s.raise code info).cfg = s.cfg := rfl
@[simp] theorem State.raise_arg0 (code : ErrCode) (info : Byte) : (s.raise code info).arg0 = s.arg0 := rfl
@[simp] theorem State.raise_arg1 (code : ErrCode) (info : Byte) : (s.raise code info).arg1 = s.arg1 := rfl
@[simp] theorem State.raise_res0 (code : ErrCode) (info : Byte) : (s.raise code info).res0 = s.res0 := rfl
@[simp] theorem State.raise_res1 (code : ErrCode) (info : Byte) : (s.raise code info).res1 = s.res1 := rfl
@[simp] theorem State.raise_status (code : ErrCode) (info : Byte) : (s.raise code info).status = recordFault code.byte info s.status := rfl
@[simp] theorem State.raise_rb (code : ErrCode) (info : Byte) : (s.raise code info).rb = s.rb := rfl
@[simp] theorem State.raise_stageB (code : ErrCode) (info : Byte) : (s.raise code info).stageB = s.stageB := rfl
@[simp] theorem State.raise_stageA (code : ErrCode) (info : Byte) : (s.raise code info).stageA = s.stageA := rfl
@[simp] theorem State.raise_filt (code : ErrCode) (info : Byte) : (s.raise code info).filt = s.filt := rfl
@[simp] theorem State.raise_ctrl (code : ErrCode) (info : Byte) : (s.raise code info).ctrl = s.ctrl := rfl
@[simp] theorem State.raise_qdLeft (code : ErrCode) (info : Byte) : (s.raise code info).qdLeft = s.qdLeft := rfl
@[simp] theorem State.raise_qdRight (code : ErrCode) (info : Byte) : (s.raise code info).qdRight = s.qdRight := rfl
@[simp] theorem State.raise_time (code : ErrCode) (info : Byte) : (s.raise code info).time = s.time := rfl
@[simp] theorem State.raise_flags (code : ErrCode) (info : Byte) : (s.raise code info).flags = s.flags := rfl
@[simp] theorem State.raise_resetHeld (code : ErrCode) (info : Byte) : (s.raise code info).resetHeld = s.resetHeld := rfl
@[simp] theorem State.raise_agenda (code : ErrCode) (info : Byte) : (s.raise code info).agenda = s.agenda := rfl
@[simp] theorem State.raise_observed (code : ErrCode) (info : Byte) : (s.raise code info).observed = s.observed := rfl
@[simp] theorem State.raise_readData (code : ErrCode) (info : Byte) : (s.raise code info).readData = s.readData := rfl
@[simp] theorem State.raise_draws (code : ErrCode) (info : Byte) : (s.raise code info).draws = s.draws := rfl

/-! ### deliver -/

@[simp] theorem State.deliver_cfg (v : Word) : (s.deliver v).cfg = s.cfg := rfl
@[simp] theorem State.deliver_arg0 (v : Word) : (s.deliver v).arg0 = s.arg0 := rfl
@[simp] theorem State.deliver_arg1 (v : Word) : (s.deliver v).arg1 = s.arg1 := rfl
@[simp] theorem State.deliver_res0 (v : Word) : (s.deliver v).res0 = s.res0 := rfl
@[simp] theorem State.deliver_res1 (v : Word) : (s.deliver v).res1 = s.res1 := rfl
@[simp] theorem State.deliver_status (v : Word) : (s.deliver v).status = s.status := rfl
@[simp] theorem State.deliver_rb (v : Word) : (s.deliver v).rb = s.rb := rfl
@[simp] theorem State.deliver_stageB (v : Word) : (s.deliver v).stageB = s.stageB := rfl
@[simp] theorem State.deliver_stageA (v : Word) : (s.deliver v).stageA = s.stageA := rfl
@[simp] theorem State.deliver_filt (v : Word) : (s.deliver v).filt = s.filt := rfl
@[simp] theorem State.deliver_ctrl (v : Word) : (s.deliver v).ctrl = s.ctrl := rfl
@[simp] theorem State.deliver_qdLeft (v : Word) : (s.deliver v).qdLeft = s.qdLeft := rfl
@[simp] theorem State.deliver_qdRight (v : Word) : (s.deliver v).qdRight = s.qdRight := rfl
@[simp] theorem State.deliver_time (v : Word) : (s.deliver v).time = s.time := rfl
@[simp] theorem State.deliver_flags (v : Word) : (s.deliver v).flags = s.flags := rfl
@[simp] theorem State.deliver_resetHeld (v : Word) : (s.deliver v).resetHeld = s.resetHeld := rfl
@[simp] theorem State.deliver_agenda (v : Word) : (s.deliver v).agenda = s.agenda := rfl
@[simp] theorem State.deliver_observed (v : Word) : (s.deliver v).observed = s.observed := rfl
@[simp] theorem State.deliver_readData (v : Word) : (s.deliver v).readData = v := rfl
@[simp] theorem State.deliver_draws (v : Word) : (s.deliver v).draws = s.draws := rfl

/-! ### holdReset -/

@[simp] theorem State.holdReset_cfg : s.holdReset.cfg = s.cfg := rfl
@[simp] theorem State.holdReset_arg0 : s.holdReset.arg0 = s.arg0 := rfl
@[simp] theorem State.holdReset_arg1 : s.holdReset.arg1 = s.arg1 := rfl
@[simp] theorem State.holdReset_res0 : s.holdReset.res0 = s.res0 := rfl
@[simp] theorem State.holdReset_res1 : s.holdReset.res1 = s.res1 := rfl
@[simp] theorem State.holdReset_status : s.holdReset.status = s.status := rfl
@[simp] theorem State.holdReset_rb : s.holdReset.rb = s.rb := rfl
@[simp] theorem State.holdReset_stageB : s.holdReset.stageB = s.stageB := rfl
@[simp] theorem State.holdReset_stageA : s.holdReset.stageA = s.stageA := rfl
@[simp] theorem State.holdReset_filt : s.holdReset.filt = s.filt := rfl
@[simp] theorem State.holdReset_ctrl : s.holdReset.ctrl = s.ctrl := rfl
@[simp] theorem State.holdReset_qdLeft : s.holdReset.qdLeft = s.qdLeft := rfl
@[simp] theorem State.holdReset_qdRight : s.holdReset.qdRight = s.qdRight := rfl
@[simp] theorem State.holdReset_time : s.holdReset.time = s.time := rfl
@[simp] theorem State.holdReset_flags : s.holdReset.flags = s.flags := rfl
@[simp] theorem State.holdReset_resetHeld : s.holdReset.resetHeld = true := rfl
@[simp] theorem State.holdReset_agenda : s.holdReset.agenda = s.agenda := rfl
@[simp] theorem State.holdReset_observed : s.holdReset.observed = s.observed := rfl
@[simp] theorem State.holdReset_readData : s.holdReset.readData = s.readData := rfl
@[simp] theorem State.holdReset_draws : s.holdReset.draws = s.draws := rfl

/-! ### observe -/

@[simp] theorem State.observe_cfg (v : Word) : (s.observe v).cfg = s.cfg := rfl
@[simp] theorem State.observe_arg0 (v : Word) : (s.observe v).arg0 = s.arg0 := rfl
@[simp] theorem State.observe_arg1 (v : Word) : (s.observe v).arg1 = s.arg1 := rfl
@[simp] theorem State.observe_res0 (v : Word) : (s.observe v).res0 = s.res0 := rfl
@[simp] theorem State.observe_res1 (v : Word) : (s.observe v).res1 = s.res1 := rfl
@[simp] theorem State.observe_status (v : Word) : (s.observe v).status = s.status := rfl
@[simp] theorem State.observe_rb (v : Word) : (s.observe v).rb = s.rb := rfl
@[simp] theorem State.observe_stageB (v : Word) : (s.observe v).stageB = s.stageB := rfl
@[simp] theorem State.observe_stageA (v : Word) : (s.observe v).stageA = s.stageA := rfl
@[simp] theorem State.observe_filt (v : Word) : (s.observe v).filt = s.filt := rfl
@[simp] theorem State.observe_ctrl (v : Word) : (s.observe v).ctrl = s.ctrl := rfl
@[simp] theorem State.observe_qdLeft (v : Word) : (s.observe v).qdLeft = s.qdLeft := rfl
@[simp] theorem State.observe_qdRight (v : Word) : (s.observe v).qdRight = s.qdRight := rfl
@[simp] theorem State.observe_time (v : Word) : (s.observe v).time = s.time := rfl
@[simp] theorem State.observe_flags (v : Word) : (s.observe v).flags = s.flags := rfl
@[simp] theorem State.observe_resetHeld (v : Word) : (s.observe v).resetHeld = s.resetHeld := rfl
@[simp] theorem State.observe_agenda (v : Word) : (s.observe v).agenda = s.agenda := rfl
@[simp] theorem State.observe_observed (v : Word) : (s.observe v).observed = s.observed ++ [v] := rfl
@[simp] theorem State.observe_readData (v : Word) : (s.observe v).readData = s.readData := rfl
@[simp] theorem State.observe_draws (v : Word) : (s.observe v).draws = s.draws := rfl

/-! ### setQuad -/

@[simp] theorem State.setQuad_cfg (sd : Side) (Q : Quad) : (s.setQuad sd Q).cfg = s.cfg := by cases sd <;> rfl
@[simp] theorem State.setQuad_arg0 (sd : Side) (Q : Quad) : (s.setQuad sd Q).arg0 = s.arg0 := by cases sd <;> rfl
@[simp] theorem State.setQuad_arg1 (sd : Side) (Q : Quad) : (s.setQuad sd Q).arg1 = s.arg1 := by cases sd <;> rfl
@[simp] theorem State.setQuad_res0 (sd : Side) (Q : Quad) : (s.setQuad sd Q).res0 = s.res0 := by cases sd <;> rfl
@[simp] theorem State.setQuad_res1 (sd : Side) (Q : Quad) : (s.setQuad sd Q).res1 = s.res1 := by cases sd <;> rfl
@[simp] theorem State.setQuad_status (sd : Side) (Q : Quad) : (s.setQuad sd Q).status = s.status := by cases sd <;> rfl
@[simp] theorem State.setQuad_rb (sd : Side) (Q : Quad) : (s.setQuad sd Q).rb = s.rb := by cases sd <;> rfl
@[simp] theorem State.setQuad_stageB (sd : Side) (Q : Quad) : (s.setQuad sd Q).stageB = s.stageB := by cases sd <;> rfl
@[simp] theorem State.setQuad_stageA (sd : Side) (Q : Quad) : (s.setQuad sd Q).stageA = s.stageA := by cases sd <;> rfl
@[simp] theorem State.setQuad_filt (sd : Side) (Q : Quad) : (s.setQuad sd Q).filt = s.filt := by cases sd <;> rfl
@[simp] theorem State.setQuad_ctrl (sd : Side) (Q : Quad) : (s.setQuad sd Q).ctrl = s.ctrl := by cases sd <;> rfl
@[simp] theorem State.setQuad_time (sd : Side) (Q : Quad) : (s.setQuad sd Q).time = s.time := by cases sd <;> rfl
@[simp] theorem State.setQuad_flags (sd : Side) (Q : Quad) : (s.setQuad sd Q).flags = s.flags := by cases sd <;> rfl
@[simp] theorem State.setQuad_resetHeld (sd : Side) (Q : Quad) : (s.setQuad sd Q).resetHeld = s.resetHeld := by cases sd <;> rfl
@[simp] theorem State.setQuad_agenda (sd : Side) (Q : Quad) : (s.setQuad sd Q).agenda = s.agenda := by cases sd <;> rfl
@[simp] theorem State.setQuad_observed (sd : Side) (Q : Quad) : (s.setQuad sd Q).observed = s.observed := by cases sd <;> rfl
@[simp] theorem State.setQuad_readData (sd : Side) (Q : Quad) : (s.setQuad sd Q).readData = s.readData := by cases sd <;> rfl
@[simp] theorem State.setQuad_draws (sd : Side) (Q : Quad) : (s.setQuad sd Q).draws = s.draws := by cases sd <;> rfl
@[simp] theorem State.setQuad_left_qdLeft (Q : Quad) : (s.setQuad .left Q).qdLeft = Q := rfl
@[simp] theorem State.setQuad_left_qdRight (Q : Quad) : (s.setQuad .left Q).qdRight = s.qdRight := rfl
@[simp] theorem State.setQuad_right_qdLeft (Q : Quad) : (s.setQuad .right Q).qdLeft = s.qdLeft := rfl
@[simp] theorem State.setQuad_right_qdRight (Q : Quad) : (s.setQuad .right Q).qdRight = Q := rfl

/-! ### stage -/

@[simp] theorem State.stage_cfg (bank : Bank) (i : Nat) (v : Word) : (s.stage bank i v).cfg = s.cfg := by cases bank <;> rfl
@[simp] theorem State.stage_arg0 (bank : Bank) (i : Nat) (v : Word) : (s.stage bank i v).arg0 = s.arg0 := by cases bank <;> rfl
@[simp] theorem State.stage_arg1 (bank : Bank) (i : Nat) (v : Word) : (s.stage bank i v).arg1 = s.arg1 := by cases bank <;> rfl
@[simp] theorem State.stage_res0 (bank : Bank) (i : Nat) (v : Word) : (s.stage bank i v).res0 = s.res0 := by cases bank <;> rfl
@[simp] theorem State.stage_res1 (bank : Bank) (i : Nat) (v : Word) : (s.stage bank i v).res1 = s.res1 := by cases bank <;> rfl
@[simp] theorem State.stage_status (bank : Bank) (i : Nat) (v : Word) : (s.stage bank i v).status = s.status := by cases bank <;> rfl
@[simp] theorem State.stage_rb (bank : Bank) (i : Nat) (v : Word) : (s.stage bank i v).rb = s.rb := by cases bank <;> rfl
@[simp] theorem State.stage_filt (bank : Bank) (i : Nat) (v : Word) : (s.stage bank i v).filt = s.filt := by cases bank <;> rfl
@[simp] theorem State.stage_ctrl (bank : Bank) (i : Nat) (v : Word) : (s.stage bank i v).ctrl = s.ctrl := by cases bank <;> rfl
@[simp] theorem State.stage_qdLeft (bank : Bank) (i : Nat) (v : Word) : (s.stage bank i v).qdLeft = s.qdLeft := by cases bank <;> rfl
@[simp] theorem State.stage_qdRight (bank : Bank) (i : Nat) (v : Word) : (s.stage bank i v).qdRight = s.qdRight := by cases bank <;> rfl
@[simp] theorem State.stage_time (bank : Bank) (i : Nat) (v : Word) : (s.stage bank i v).time = s.time := by cases bank <;> rfl
@[simp] theorem State.stage_flags (bank : Bank) (i : Nat) (v : Word) : (s.stage bank i v).flags = s.flags := by cases bank <;> rfl
@[simp] theorem State.stage_resetHeld (bank : Bank) (i : Nat) (v : Word) : (s.stage bank i v).resetHeld = s.resetHeld := by cases bank <;> rfl
@[simp] theorem State.stage_agenda (bank : Bank) (i : Nat) (v : Word) : (s.stage bank i v).agenda = s.agenda := by cases bank <;> rfl
@[simp] theorem State.stage_observed (bank : Bank) (i : Nat) (v : Word) : (s.stage bank i v).observed = s.observed := by cases bank <;> rfl
@[simp] theorem State.stage_readData (bank : Bank) (i : Nat) (v : Word) : (s.stage bank i v).readData = s.readData := by cases bank <;> rfl
@[simp] theorem State.stage_draws (bank : Bank) (i : Nat) (v : Word) : (s.stage bank i v).draws = s.draws := by cases bank <;> rfl
@[simp] theorem State.stage_numer_stageB (i : Nat) (v : Word) : (s.stage .numer i v).stageB = s.stageB.set i v := rfl
@[simp] theorem State.stage_numer_stageA (i : Nat) (v : Word) : (s.stage .numer i v).stageA = s.stageA := rfl
@[simp] theorem State.stage_denom_stageB (i : Nat) (v : Word) : (s.stage .denom i v).stageB = s.stageB := rfl
@[simp] theorem State.stage_denom_stageA (i : Nat) (v : Word) : (s.stage .denom i v).stageA = s.stageA.set i v := rfl

/-! ### clearFaults: every field but STATUS stays -/

@[simp] theorem State.clearFaults_cfg (w : Word) : (s.clearFaults w).cfg = s.cfg := by
  unfold State.clearFaults; split <;> rfl
@[simp] theorem State.clearFaults_arg0 (w : Word) : (s.clearFaults w).arg0 = s.arg0 := by
  unfold State.clearFaults; split <;> rfl
@[simp] theorem State.clearFaults_arg1 (w : Word) : (s.clearFaults w).arg1 = s.arg1 := by
  unfold State.clearFaults; split <;> rfl
@[simp] theorem State.clearFaults_res0 (w : Word) : (s.clearFaults w).res0 = s.res0 := by
  unfold State.clearFaults; split <;> rfl
@[simp] theorem State.clearFaults_res1 (w : Word) : (s.clearFaults w).res1 = s.res1 := by
  unfold State.clearFaults; split <;> rfl
theorem State.clearFaults_status (w : Word) : (s.clearFaults w).status = if w.getLsbD 0 then 0 else s.status := by
  unfold State.clearFaults; split <;> rfl
@[simp] theorem State.clearFaults_rb (w : Word) : (s.clearFaults w).rb = s.rb := by
  unfold State.clearFaults; split <;> rfl
@[simp] theorem State.clearFaults_stageB (w : Word) : (s.clearFaults w).stageB = s.stageB := by
  unfold State.clearFaults; split <;> rfl
@[simp] theorem State.clearFaults_stageA (w : Word) : (s.clearFaults w).stageA = s.stageA := by
  unfold State.clearFaults; split <;> rfl
@[simp] theorem State.clearFaults_filt (w : Word) : (s.clearFaults w).filt = s.filt := by
  unfold State.clearFaults; split <;> rfl
@[simp] theorem State.clearFaults_ctrl (w : Word) : (s.clearFaults w).ctrl = s.ctrl := by
  unfold State.clearFaults; split <;> rfl
@[simp] theorem State.clearFaults_qdLeft (w : Word) : (s.clearFaults w).qdLeft = s.qdLeft := by
  unfold State.clearFaults; split <;> rfl
@[simp] theorem State.clearFaults_qdRight (w : Word) : (s.clearFaults w).qdRight = s.qdRight := by
  unfold State.clearFaults; split <;> rfl
@[simp] theorem State.clearFaults_time (w : Word) : (s.clearFaults w).time = s.time := by
  unfold State.clearFaults; split <;> rfl
@[simp] theorem State.clearFaults_flags (w : Word) : (s.clearFaults w).flags = s.flags := by
  unfold State.clearFaults; split <;> rfl
@[simp] theorem State.clearFaults_resetHeld (w : Word) : (s.clearFaults w).resetHeld = s.resetHeld := by
  unfold State.clearFaults; split <;> rfl
@[simp] theorem State.clearFaults_agenda (w : Word) : (s.clearFaults w).agenda = s.agenda := by
  unfold State.clearFaults; split <;> rfl
@[simp] theorem State.clearFaults_observed (w : Word) : (s.clearFaults w).observed = s.observed := by
  unfold State.clearFaults; split <;> rfl
@[simp] theorem State.clearFaults_readData (w : Word) : (s.clearFaults w).readData = s.readData := by
  unfold State.clearFaults; split <;> rfl
@[simp] theorem State.clearFaults_draws (w : Word) : (s.clearFaults w).draws = s.draws := by
  unfold State.clearFaults; split <;> rfl

/-! ### Reset -/

@[simp] theorem State.applyReset_cfg : s.applyReset.cfg = s.cfg := rfl
@[simp] theorem State.applyReset_agenda : s.applyReset.agenda = s.agenda := rfl
@[simp] theorem State.applyReset_observed : s.applyReset.observed = s.observed := rfl
@[simp] theorem State.applyReset_readData : s.applyReset.readData = s.readData := rfl
@[simp] theorem State.applyReset_resetHeld : s.applyReset.resetHeld = s.resetHeld := rfl
@[simp] theorem State.applyReset_draws : s.applyReset.draws = s.draws + 2 := rfl
@[simp] theorem State.applyReset_status : s.applyReset.status = 0 := rfl

/-- All a release can do (R370): the reset procedure, if the input was asserted, else nothing. -/
theorem State.releaseReset_cases :
    (s.resetHeld = true ∧ s.releaseReset = { s.applyReset with resetHeld := false }) ∨
    (s.resetHeld = false ∧ s.releaseReset = s) := by
  unfold State.releaseReset
  cases h : s.resetHeld
  · exact .inr ⟨rfl, rfl⟩
  · exact .inl ⟨rfl, rfl⟩

/-! ### A register read out: only what the host has read changes -/

@[simp] theorem State.readOut_cfg (reg : Reg) : (s.readOut reg).cfg = s.cfg := by cases reg <;> rfl
@[simp] theorem State.readOut_arg0 (reg : Reg) : (s.readOut reg).arg0 = s.arg0 := by cases reg <;> rfl
@[simp] theorem State.readOut_arg1 (reg : Reg) : (s.readOut reg).arg1 = s.arg1 := by cases reg <;> rfl
@[simp] theorem State.readOut_res0 (reg : Reg) : (s.readOut reg).res0 = s.res0 := by cases reg <;> rfl
@[simp] theorem State.readOut_res1 (reg : Reg) : (s.readOut reg).res1 = s.res1 := by cases reg <;> rfl
@[simp] theorem State.readOut_status (reg : Reg) : (s.readOut reg).status = s.status := by cases reg <;> rfl
@[simp] theorem State.readOut_rb (reg : Reg) : (s.readOut reg).rb = s.rb := by cases reg <;> rfl
@[simp] theorem State.readOut_stageB (reg : Reg) : (s.readOut reg).stageB = s.stageB := by cases reg <;> rfl
@[simp] theorem State.readOut_stageA (reg : Reg) : (s.readOut reg).stageA = s.stageA := by cases reg <;> rfl
@[simp] theorem State.readOut_filt (reg : Reg) : (s.readOut reg).filt = s.filt := by cases reg <;> rfl
@[simp] theorem State.readOut_ctrl (reg : Reg) : (s.readOut reg).ctrl = s.ctrl := by cases reg <;> rfl
@[simp] theorem State.readOut_qdLeft (reg : Reg) : (s.readOut reg).qdLeft = s.qdLeft := by cases reg <;> rfl
@[simp] theorem State.readOut_qdRight (reg : Reg) : (s.readOut reg).qdRight = s.qdRight := by cases reg <;> rfl
@[simp] theorem State.readOut_time (reg : Reg) : (s.readOut reg).time = s.time := by cases reg <;> rfl
@[simp] theorem State.readOut_flags (reg : Reg) : (s.readOut reg).flags = s.flags := by cases reg <;> rfl
@[simp] theorem State.readOut_resetHeld (reg : Reg) : (s.readOut reg).resetHeld = s.resetHeld := by cases reg <;> rfl
@[simp] theorem State.readOut_agenda (reg : Reg) : (s.readOut reg).agenda = s.agenda := by cases reg <;> rfl
@[simp] theorem State.readOut_draws (reg : Reg) : (s.readOut reg).draws = s.draws := by cases reg <;> rfl
@[simp] theorem State.readOut_readData (reg : Reg) : (s.readOut reg).readData = s.readReg reg := by cases reg <;> rfl
theorem State.readOut_observed (reg : Reg) :
    (s.readOut reg).observed = if reg.observable then s.observed ++ [s.readReg reg] else s.observed := by
  cases reg <;> rfl

/-! ### The sample and the initialisation of a side -/

@[simp] theorem State.sampleSide_cfg (sd : Side) (x b : Bool) : (s.sampleSide sd x b).cfg = s.cfg := by cases sd <;> rfl
@[simp] theorem State.sampleSide_arg0 (sd : Side) (x b : Bool) : (s.sampleSide sd x b).arg0 = s.arg0 := by cases sd <;> rfl
@[simp] theorem State.sampleSide_arg1 (sd : Side) (x b : Bool) : (s.sampleSide sd x b).arg1 = s.arg1 := by cases sd <;> rfl
@[simp] theorem State.sampleSide_res0 (sd : Side) (x b : Bool) : (s.sampleSide sd x b).res0 = s.res0 := by cases sd <;> rfl
@[simp] theorem State.sampleSide_res1 (sd : Side) (x b : Bool) : (s.sampleSide sd x b).res1 = s.res1 := by cases sd <;> rfl
@[simp] theorem State.sampleSide_status (sd : Side) (x b : Bool) : (s.sampleSide sd x b).status = s.status := by cases sd <;> rfl
@[simp] theorem State.sampleSide_rb (sd : Side) (x b : Bool) : (s.sampleSide sd x b).rb = s.rb := by cases sd <;> rfl
@[simp] theorem State.sampleSide_stageB (sd : Side) (x b : Bool) : (s.sampleSide sd x b).stageB = s.stageB := by cases sd <;> rfl
@[simp] theorem State.sampleSide_stageA (sd : Side) (x b : Bool) : (s.sampleSide sd x b).stageA = s.stageA := by cases sd <;> rfl
@[simp] theorem State.sampleSide_filt (sd : Side) (x b : Bool) : (s.sampleSide sd x b).filt = s.filt := by cases sd <;> rfl
@[simp] theorem State.sampleSide_ctrl (sd : Side) (x b : Bool) : (s.sampleSide sd x b).ctrl = s.ctrl := by cases sd <;> rfl
@[simp] theorem State.sampleSide_time (sd : Side) (x b : Bool) : (s.sampleSide sd x b).time = s.time := by cases sd <;> rfl
@[simp] theorem State.sampleSide_flags (sd : Side) (x b : Bool) : (s.sampleSide sd x b).flags = s.flags := by cases sd <;> rfl
@[simp] theorem State.sampleSide_resetHeld (sd : Side) (x b : Bool) : (s.sampleSide sd x b).resetHeld = s.resetHeld := by cases sd <;> rfl
@[simp] theorem State.sampleSide_agenda (sd : Side) (x b : Bool) : (s.sampleSide sd x b).agenda = s.agenda := by cases sd <;> rfl
@[simp] theorem State.sampleSide_observed (sd : Side) (x b : Bool) : (s.sampleSide sd x b).observed = s.observed := by cases sd <;> rfl
@[simp] theorem State.sampleSide_readData (sd : Side) (x b : Bool) : (s.sampleSide sd x b).readData = s.readData := by cases sd <;> rfl
@[simp] theorem State.sampleSide_draws (sd : Side) (x b : Bool) : (s.sampleSide sd x b).draws = s.draws := by cases sd <;> rfl
@[simp] theorem State.initSide_cfg (sd : Side) : (s.initSide sd).cfg = s.cfg := by cases sd <;> rfl
@[simp] theorem State.initSide_arg0 (sd : Side) : (s.initSide sd).arg0 = s.arg0 := by cases sd <;> rfl
@[simp] theorem State.initSide_arg1 (sd : Side) : (s.initSide sd).arg1 = s.arg1 := by cases sd <;> rfl
@[simp] theorem State.initSide_res0 (sd : Side) : (s.initSide sd).res0 = s.res0 := by cases sd <;> rfl
@[simp] theorem State.initSide_res1 (sd : Side) : (s.initSide sd).res1 = s.res1 := by cases sd <;> rfl
@[simp] theorem State.initSide_status (sd : Side) : (s.initSide sd).status = s.status := by cases sd <;> rfl
@[simp] theorem State.initSide_rb (sd : Side) : (s.initSide sd).rb = s.rb := by cases sd <;> rfl
@[simp] theorem State.initSide_stageB (sd : Side) : (s.initSide sd).stageB = s.stageB := by cases sd <;> rfl
@[simp] theorem State.initSide_stageA (sd : Side) : (s.initSide sd).stageA = s.stageA := by cases sd <;> rfl
@[simp] theorem State.initSide_filt (sd : Side) : (s.initSide sd).filt = s.filt := by cases sd <;> rfl
@[simp] theorem State.initSide_ctrl (sd : Side) : (s.initSide sd).ctrl = s.ctrl := by cases sd <;> rfl
@[simp] theorem State.initSide_time (sd : Side) : (s.initSide sd).time = s.time := by cases sd <;> rfl
@[simp] theorem State.initSide_flags (sd : Side) : (s.initSide sd).flags = s.flags := by cases sd <;> rfl
@[simp] theorem State.initSide_resetHeld (sd : Side) : (s.initSide sd).resetHeld = s.resetHeld := by cases sd <;> rfl
@[simp] theorem State.initSide_agenda (sd : Side) : (s.initSide sd).agenda = s.agenda := by cases sd <;> rfl
@[simp] theorem State.initSide_observed (sd : Side) : (s.initSide sd).observed = s.observed := by cases sd <;> rfl
@[simp] theorem State.initSide_readData (sd : Side) : (s.initSide sd).readData = s.readData := by cases sd <;> rfl
@[simp] theorem State.initSide_draws (sd : Side) : (s.initSide sd).draws = s.draws + 1 := by cases sd <;> rfl

/-! ### An element read after one is written -/

@[simp] theorem State.quad_setQuad_self (sd : Side) (Q : Quad) : (s.setQuad sd Q).quad sd = Q := by
  cases sd <;> rfl

theorem State.quad_setQuad_of_ne {sd sd' : Side} (Q : Quad) (h : sd ≠ sd') : (s.setQuad sd Q).quad sd' = s.quad sd' := by
  cases sd <;> cases sd' <;> first | rfl | exact absurd rfl h

theorem State.ring_setRing (r r' : Nat) (B : Ring) (h : r < s.rb.length) :
    (s.setRing r B).ring r' = if r' = r then B else s.ring r' := by
  by_cases e : r' = r
  · subst e; simp [State.ring, State.setRing, h]
  · simp [State.ring, State.setRing, e, List.getElem?_set_ne (Ne.symm e)]

theorem State.filter_setFilter (f f' : Nat) (F : Filt) (h : f < s.filt.length) :
    (s.setFilter f F).filter f' = if f' = f then F else s.filter f' := by
  by_cases e : f' = f
  · subst e; simp [State.filter, State.setFilter, h]
  · simp [State.filter, State.setFilter, e, List.getElem?_set_ne (Ne.symm e)]

theorem State.controller_setController (c c' : Nat) (C : Ctrl) (h : c < s.ctrl.length) :
    (s.setController c C).controller c' = if c' = c then C else s.controller c' := by
  by_cases e : c' = c
  · subst e; simp [State.controller, State.setController, h]
  · simp [State.controller, State.setController, e, List.getElem?_set_ne (Ne.symm e)]

theorem State.flag_setFlag (g g' : Nat) (G : Flag) (h : g < s.flags.length) :
    (s.setFlag g G).flag g' = if g' = g then G else s.flag g' := by
  by_cases e : g' = g
  · subst e; simp [State.flag, State.setFlag, h]
  · simp [State.flag, State.setFlag, e, List.getElem?_set_ne (Ne.symm e)]

end Sys2Proof.Machine
end

