-- ==== Sys2Proof/Laws/Ops.lean ====
section
/-! SUPPORT. Once for each shared operation: everything it can do when it answers a next state, and the cases of a step. -/

namespace Sys2Proof.Machine

variable {s t : State}

/-- The outcome of a command or step, as all of this model's commands end. -/
abbrev Out := Host.Outcome State Fault Refusal

theorem next_inj {a b : State} : (Host.Outcome.next a : Out) = .next b ↔ a = b := by simp

/-- A fault always goes on, with the record made (R331, R348). -/
theorem fail_eq (code : ErrCode) (opc : Byte) (s : State) : fail code opc s = .next (s.raise code opc) := rfl

/-- A ring-buffer command: its effect, or BAD_INSTANCE (R334). -/
theorem onRing_cases (opc : Byte) (r : Nat) (s : State) (k : Out) :
    (r < s.cfg.numRb ∧ onRing opc r s k = k) ∨
    (s.cfg.numRb ≤ r ∧ onRing opc r s k = .next (s.raise .badInstance opc)) := by
  unfold onRing; split
  · exact .inl ⟨‹_›, rfl⟩
  · exact .inr ⟨by omega, rfl⟩

/-- A filter command: its effect, or BAD_INSTANCE (R334). -/
theorem onFilter_cases (opc : Byte) (f : Nat) (s : State) (k : Out) :
    (f < s.cfg.numFilt ∧ onFilter opc f s k = k) ∨
    (s.cfg.numFilt ≤ f ∧ onFilter opc f s k = .next (s.raise .badInstance opc)) := by
  unfold onFilter; split
  · exact .inl ⟨‹_›, rfl⟩
  · exact .inr ⟨by omega, rfl⟩

/-- An operating filter command: its effect, BAD_INSTANCE or NOT_INIT (R334). -/
theorem onValidFilter_cases (opc : Byte) (f : Nat) (s : State) (k : Out) :
    (f < s.cfg.numFilt ∧ (s.filter f).valid = true ∧ onValidFilter opc f s k = k) ∨
    (s.cfg.numFilt ≤ f ∧ onValidFilter opc f s k = .next (s.raise .badInstance opc)) ∨
    (f < s.cfg.numFilt ∧ (s.filter f).valid = false ∧
      onValidFilter opc f s k = .next (s.raise .notInit opc)) := by
  unfold onValidFilter
  obtain ⟨h, e⟩ | ⟨h, e⟩ := onFilter_cases opc f s (if (s.filter f).valid then k else fail .notInit opc s)
  · by_cases v : (s.filter f).valid = true
    · exact .inl ⟨h, v, by rw [e, if_pos v]⟩
    · exact .inr (.inr ⟨h, by simpa using v, by rw [e, if_neg v]; rfl⟩)
  · exact .inr (.inl ⟨h, e⟩)

/-- A controller command: its effect, or BAD_INSTANCE (R334). -/
theorem onController_cases (opc : Byte) (c : Nat) (s : State) (k : Out) :
    (c < s.cfg.numCtrl ∧ onController opc c s k = k) ∨
    (s.cfg.numCtrl ≤ c ∧ onController opc c s k = .next (s.raise .badInstance opc)) := by
  unfold onController; split
  · exact .inl ⟨‹_›, rfl⟩
  · exact .inr ⟨by omega, rfl⟩

/-- An operating controller command: its effect, BAD_INSTANCE or NOT_INIT (R334). -/
theorem onValidController_cases (opc : Byte) (c : Nat) (s : State) (k : Out) :
    (c < s.cfg.numCtrl ∧ (s.controller c).valid = true ∧ onValidController opc c s k = k) ∨
    (s.cfg.numCtrl ≤ c ∧ onValidController opc c s k = .next (s.raise .badInstance opc)) ∨
    (c < s.cfg.numCtrl ∧ (s.controller c).valid = false ∧
      onValidController opc c s k = .next (s.raise .notInit opc)) := by
  unfold onValidController
  obtain ⟨h, e⟩ | ⟨h, e⟩ :=
    onController_cases opc c s (if (s.controller c).valid then k else fail .notInit opc s)
  · by_cases v : (s.controller c).valid = true
    · exact .inl ⟨h, v, by rw [e, if_pos v]⟩
    · exact .inr (.inr ⟨h, by simpa using v, by rw [e, if_neg v]; rfl⟩)
  · exact .inr (.inl ⟨h, e⟩)

/-- The init checks: the effect, BAD_ORDER or ZERO_A0, in that order (R181, R260, R334). -/
theorem ifInitable_cases (opc : Byte) (o : Nat) (s : State) (k : Out) :
    (o ≤ s.cfg.maxOrder ∧ isZero (s.stagedA 0) = false ∧ ifInitable opc o s k = k) ∨
    (s.cfg.maxOrder < o ∧ ifInitable opc o s k = .next (s.raise .badOrder opc)) ∨
    (o ≤ s.cfg.maxOrder ∧ isZero (s.stagedA 0) = true ∧
      ifInitable opc o s k = .next (s.raise .zeroA0 opc)) := by
  unfold ifInitable
  by_cases h : s.cfg.maxOrder < o
  · exact .inr (.inl ⟨h, by rw [if_pos h]; rfl⟩)
  · by_cases z : isZero (s.stagedA 0) = true
    · exact .inr (.inr ⟨by omega, z, by rw [if_neg h, if_pos z]; rfl⟩)
    · exact .inl ⟨by omega, by simpa using z, by rw [if_neg h, if_neg z]⟩

/-- A decoder command: its effect on the side named, or BAD_INSTANCE (R334). -/
theorem onSide_cases (opc : Byte) (n : Nat) (s : State) (k : Side → Out) :
    (∃ sd, sideOf n = some sd ∧ onSide opc n s k = k sd) ∨
    (2 ≤ n ∧ onSide opc n s k = .next (s.raise .badInstance opc)) := by
  match n with
  | 0 => exact .inl ⟨.left, rfl, rfl⟩
  | 1 => exact .inl ⟨.right, rfl, rfl⟩
  | n + 2 => exact .inr ⟨by omega, rfl⟩

/-- A flag command: its effect, or BAD_INSTANCE (R334). -/
theorem onFlag_cases (opc : Byte) (g : Nat) (s : State) (k : Out) :
    (g < s.cfg.numFlag ∧ onFlag opc g s k = k) ∨
    (s.cfg.numFlag ≤ g ∧ onFlag opc g s k = .next (s.raise .badInstance opc)) := by
  unfold onFlag; split
  · exact .inl ⟨‹_›, rfl⟩
  · exact .inr ⟨by omega, rfl⟩

/-- A read of the window: a register is read out, an access fault is recorded and 0 returned, or the address is not the
block's (R72, R73). -/
theorem hostRead_cases (addr size : Nat) (s : State) :
    (∃ reg, inWindow s.cfg addr = true ∧ regAt (addr - s.cfg.base) size = some reg ∧
      hostRead addr size s = .next (s.readOut reg)) ∨
    (inWindow s.cfg addr = true ∧ regAt (addr - s.cfg.base) size = none ∧
      hostRead addr size s = .next ((s.accessFault (addr - s.cfg.base)).deliver 0)) ∨
    (inWindow s.cfg addr = false ∧ hostRead addr size s = .fault (.noSuchAddress addr)) := by
  unfold hostRead
  by_cases h : inWindow s.cfg addr = true
  · cases e : regAt (addr - s.cfg.base) size with
    | none => exact .inr (.inl ⟨h, rfl, by simp [h]⟩)
    | some reg => exact .inl ⟨reg, h, rfl, by simp [h]⟩
  · exact .inr (.inr ⟨by simpa using h, by simp [h]⟩)

/-- A write to the window: a command runs, an operand is stored, the fault record is cleared or kept, an access
fault is recorded, or the address is not the block's (R72, R73, R76, R77, R79). -/
theorem hostWrite_cases (run : Word → State → Out) (addr size : Nat) (v : Word) (s : State) :
    hostWrite run addr size v s = run v s ∨
    hostWrite run addr size v s = .next { s with arg0 := v } ∨
    hostWrite run addr size v s = .next { s with arg1 := v } ∨
    hostWrite run addr size v s = .next (s.clearFaults v) ∨
    hostWrite run addr size v s = .next (s.accessFault (addr - s.cfg.base)) ∨
    hostWrite run addr size v s = .fault (.noSuchAddress addr) := by
  unfold hostWrite
  split
  · split <;> simp
  · simp

/-- A word written to CMD: its command, or the fault of a word that is none (R100). -/
theorem runWord_cases (w : Word) (s : State) :
    (∃ i, decode w = .ok i ∧ runWord w s = exec i s) ∨
    (∃ e, decode w = .error e ∧ runWord w s = .next (s.raise (codeOf e) (opcOf w))) := by
  unfold runWord
  cases h : decode w with
  | ok i => exact .inl ⟨i, rfl, rfl⟩
  | error e => exact .inr ⟨e, rfl, rfl⟩

/-- A host access: the access, or the stop of a block in reset (R370). -/
theorem acceptAccess_cases (addr : Nat) (s : State) (k : Out) :
    (s.resetHeld = false ∧ acceptAccess addr s k = k) ∨
    (s.resetHeld = true ∧ acceptAccess addr s k = .fault (.accessInReset addr)) := by
  unfold acceptAccess
  cases s.resetHeld
  · exact .inl ⟨rfl, rfl⟩
  · exact .inr ⟨rfl, rfl⟩

/-- A step of an environment agent always goes on: to its state, or nowhere if the block is in reset (R370). -/
theorem agentStep_cases (s t : State) :
    (s.resetHeld = false ∧ agentStep s t = .next t) ∨ (s.resetHeld = true ∧ agentStep s t = .next s) := by
  unfold agentStep
  cases s.resetHeld
  · exact .inl ⟨rfl, rfl⟩
  · exact .inr ⟨rfl, rfl⟩

/-- With the reset input released, an event is its own effect (R80). -/
theorem perform_released (run : Word → State → Out) (e : Event) (h : s.resetHeld = false) :
    perform run e s = match e with
      | .read addr size => hostRead addr size s
      | .write addr size v => hostWrite run addr size v s
      | .sample sd x b => .next (s.sampleSide sd x b)
      | .tick => .next { s with time := s.time.tick s.cfg.ticksPerMs }
      | .resetAssert => .next s.holdReset
      | .resetRelease => .next s := by
  cases e <;> simp [perform, acceptAccess, agentStep, State.releaseReset, h]

/-- A step that goes on: the block waits, or the next event happens (R80). -/
theorem step_next (h : step s = .next t) :
    configLegal s.cfg = true ∧
    ((s.agenda = [] ∧ t = s) ∨
     (∃ e rest, s.agenda = e :: rest ∧ perform runWord e { s with agenda := rest } = .next t)) := by
  unfold step at h
  split at h
  · refine ⟨‹_›, ?_⟩
    split at h
    · exact .inl ⟨‹_›, (next_inj.1 h).symm⟩
    · exact .inr ⟨_, _, ‹_›, h⟩
  · cases h

/-! ### Runs, and faulted runs (R17, R349) -/

/-- A run of one more step goes on exactly when the first step does, and then the rest of the run. -/
theorem coreRun_succ (M : Host.Core) (k : Nat) (s t : M.State) :
    M.run (k + 1) s = .next t ↔ ∃ u, M.step s = .next u ∧ M.run k u = .next t := by
  simp only [Host.Core.run]
  cases M.step s <;> simp

/-- `coreRun_succ` for this machine. -/
theorem run_succ (k : Nat) (s t : State) :
    Sys2Proof.core.run (k + 1) s = .next t ↔ ∃ u, step s = .next u ∧ Sys2Proof.core.run k u = .next t :=
  coreRun_succ Sys2Proof.core k s t

/-- A run of no step stays where it is. -/
theorem run_zero (s t : State) : Sys2Proof.core.run 0 s = .next t ↔ s = t :=
  ⟨fun h => Host.Outcome.next.inj h, fun h => h ▸ rfl⟩

/-- A run of no step is faulted if a fault is on record. -/
theorem faultedRun_zero : FaultedRun 0 s ↔ s.faulted = true := by
  constructor
  · rintro ⟨j, t, hj, hr, hf⟩
    obtain rfl : j = 0 := by omega
    exact (run_zero s t).1 hr ▸ hf
  · exact fun h => ⟨0, s, le_rfl, rfl, h⟩

/-- A longer run is faulted if a fault is on record now, or if the run after the first step is faulted. -/
theorem faultedRun_succ (k : Nat) :
    FaultedRun (k + 1) s ↔ s.faulted = true ∨ ∃ u, step s = .next u ∧ FaultedRun k u := by
  constructor
  · rintro ⟨j, t, hj, hr, hf⟩
    cases j with
    | zero => exact .inl ((run_zero s t).1 hr ▸ hf)
    | succ j =>
      obtain ⟨u, hu, hr⟩ := (run_succ j s t).1 hr
      exact .inr ⟨u, hu, j, t, by omega, hr, hf⟩
  · rintro (h | ⟨u, hu, j, t, hj, hr, hf⟩)
    · exact ⟨0, s, by omega, rfl, h⟩
    · exact ⟨j + 1, t, by omega, (run_succ j s t).2 ⟨u, hu, hr⟩, hf⟩

end Sys2Proof.Machine
end

