-- ==== Sys2Proof/Laws/PerInstr.lean ====
section
/-! SUPPORT. Every command's word is a word of its row of spec/opcode_table.json: the row's mask keeps the row's match.
The two columns are the table's, copied; the encoder is written from R103. -/

namespace Sys2Proof

/-- The "match" column of a command's row in spec/opcode_table.json. -/
def Instr.rowMatch : Instr → Word
  | .nop => 0x00000000
  | .softReset => 0x01000000
  | .rbInit _ => 0x10000000
  | .rbPushBack _ => 0x11000000
  | .rbPushFront _ => 0x12000000
  | .rbPopBack _ => 0x13000000
  | .rbPopFront _ => 0x14000000
  | .rbGet _ _ => 0x15000000
  | .rbSet _ _ => 0x16000000
  | .rbLength _ => 0x17000000
  | .coefWr _ _ => 0x20000000
  | .filtInit _ _ => 0x21000000
  | .filtValue _ => 0x22000000
  | .filtLast _ => 0x23000000
  | .filtSetto _ => 0x24000000
  | .filtShiftby _ => 0x25000000
  | .filtRead _ _ _ => 0x26000000
  | .ctrlInit _ _ _ => 0x30000000
  | .ctrlSetPos _ => 0x31000000
  | .ctrlSetVel _ => 0x32000000
  | .ctrlUpdate _ => 0x33000000
  | .ctrlLast _ => 0x34000000
  | .ctrlSetto _ => 0x35000000
  | .ctrlShiftby _ => 0x36000000
  | .ctrlRead _ _ => 0x37000000
  | .qdInit _ => 0x40000000
  | .qdRead _ => 0x41000000
  | .qdReadBoth => 0x42000000
  | .qdAngle _ => 0x43000000
  | .qdSetScale _ => 0x44000000
  | .qdState _ => 0x45000000
  | .qdInject _ _ _ => 0x46000000
  | .timeRead => 0x50000000
  | .flagArm _ _ _ => 0x51000000
  | .flagCancel _ => 0x52000000
  | .flagPoll _ => 0x53000000
  | .flagDone _ => 0x54000000
  | .flagRead _ _ => 0x55000000
  | .flagDefault _ => 0x56000000

/-- The "mask" column of a command's row in spec/opcode_table.json. -/
def Instr.rowMask : Instr → Word
  | .nop => 0xFFFFFFFF
  | .softReset => 0xFFFFFFFF
  | .rbInit _ => 0xFF00FFFF
  | .rbPushBack _ => 0xFF00FFFF
  | .rbPushFront _ => 0xFF00FFFF
  | .rbPopBack _ => 0xFF00FFFF
  | .rbPopFront _ => 0xFF00FFFF
  | .rbGet _ _ => 0xFF0000FF
  | .rbSet _ _ => 0xFF0000FF
  | .rbLength _ => 0xFF00FFFF
  | .coefWr _ _ => 0xFFFF00FE
  | .filtInit _ _ => 0xFF0000FF
  | .filtValue _ => 0xFF00FFFF
  | .filtLast _ => 0xFF00FFFF
  | .filtSetto _ => 0xFF00FFFF
  | .filtShiftby _ => 0xFF00FFFF
  | .filtRead _ _ _ => 0xFF000000
  | .ctrlInit _ _ _ => 0xFF0000FE
  | .ctrlSetPos _ => 0xFF00FFFF
  | .ctrlSetVel _ => 0xFF00FFFF
  | .ctrlUpdate _ => 0xFF00FFFF
  | .ctrlLast _ => 0xFF00FFFF
  | .ctrlSetto _ => 0xFF00FFFF
  | .ctrlShiftby _ => 0xFF00FFFF
  | .ctrlRead _ _ => 0xFF00FF00
  | .qdInit _ => 0xFF00FFFF
  | .qdRead _ => 0xFF00FFFF
  | .qdReadBoth => 0xFFFFFFFF
  | .qdAngle _ => 0xFF00FFFF
  | .qdSetScale _ => 0xFF00FFFF
  | .qdState _ => 0xFF00FFFF
  | .qdInject _ _ _ => 0xFF00FFFC
  | .timeRead => 0xFFFFFFFF
  | .flagArm _ _ _ => 0xFF000000
  | .flagCancel _ => 0xFF00FFFF
  | .flagPoll _ => 0xFF00FFFF
  | .flagDone _ => 0xFF00FFFF
  | .flagRead _ _ => 0xFF00FF00
  | .flagDefault _ => 0xFF00FFFF

/-- Masking works field by field. -/
theorem pack_and_pack (a b c d a' b' c' d' : Byte) :
    pack a b c d &&& pack a' b' c' d' = pack (a &&& a') (b &&& b') (c &&& c') (d &&& d') := by
  apply BitVec.eq_of_getLsbD_eq; intro i _
  simp only [pack, BitVec.getLsbD_and, BitVec.getLsbD_append]
  split_ifs <;> rfl

theorem bankBit_and (k : Bank) : bankBit k &&& 0xFE = 0 := by cases k <;> decide

theorem selBit_and (m : SelRule) : selBit m &&& 0xFE = 0 := by cases m <;> decide

theorem sampleBits_and (x b : Bool) : sampleBits x b &&& 0xFC = 0 := by cases x <;> cases b <;> decide

theorem and_zeros (a : Byte) : a &&& 0 = 0 := BitVec.and_zero

theorem and_ones (a : Byte) : a &&& 0xFF = a := BitVec.and_allOnes

/-- A word matches a row once each of its fields does. -/
theorem pack_matches {a b c d a' b' c' d' a'' b'' c'' d'' : Byte} {mask mtch : Word}
    (hmask : mask = pack a' b' c' d') (hmatch : mtch = pack a'' b'' c'' d'')
    (ha : a &&& a' = a'') (hb : b &&& b' = b'') (hc : c &&& c' = c'') (hd : d &&& d' = d'') :
    pack a b c d &&& mask = mtch := by
  rw [hmask, hmatch, pack_and_pack, ha, hb, hc, hd]

namespace Laws.TableRow

/-- The encoded word matches the command's row of the opcode table (R103, R105). -/
def Statement (i : Instr) : Prop := encode i &&& i.rowMask = i.rowMatch

theorem nop : Statement (.nop) := by
  refine pack_matches (hmask := (by decide : (0xFFFFFFFF : Word) = pack 0xFF 0xFF 0xFF 0xFF)) (hmatch := (by decide : (0x00000000 : Word) = pack 0x00 0x00 0x00 0x00)) ?_ ?_ ?_ ?_ <;>
    simp only [Instr.opcode, Instr.instField, Instr.idxField, Instr.auxField, and_ones]

theorem softReset : Statement (.softReset) := by
  refine pack_matches (hmask := (by decide : (0xFFFFFFFF : Word) = pack 0xFF 0xFF 0xFF 0xFF)) (hmatch := (by decide : (0x01000000 : Word) = pack 0x01 0x00 0x00 0x00)) ?_ ?_ ?_ ?_ <;>
    simp only [Instr.opcode, Instr.instField, Instr.idxField, Instr.auxField, and_ones]

theorem rbInit (r : Nat) : Statement (.rbInit r) := by
  refine pack_matches (hmask := (by decide : (0xFF00FFFF : Word) = pack 0xFF 0x00 0xFF 0xFF)) (hmatch := (by decide : (0x10000000 : Word) = pack 0x10 0x00 0x00 0x00)) ?_ ?_ ?_ ?_ <;>
    simp only [Instr.opcode, Instr.instField, Instr.idxField, Instr.auxField, and_ones, and_zeros]

theorem rbPushBack (r : Nat) : Statement (.rbPushBack r) := by
  refine pack_matches (hmask := (by decide : (0xFF00FFFF : Word) = pack 0xFF 0x00 0xFF 0xFF)) (hmatch := (by decide : (0x11000000 : Word) = pack 0x11 0x00 0x00 0x00)) ?_ ?_ ?_ ?_ <;>
    simp only [Instr.opcode, Instr.instField, Instr.idxField, Instr.auxField, and_ones, and_zeros]

theorem rbPushFront (r : Nat) : Statement (.rbPushFront r) := by
  refine pack_matches (hmask := (by decide : (0xFF00FFFF : Word) = pack 0xFF 0x00 0xFF 0xFF)) (hmatch := (by decide : (0x12000000 : Word) = pack 0x12 0x00 0x00 0x00)) ?_ ?_ ?_ ?_ <;>
    simp only [Instr.opcode, Instr.instField, Instr.idxField, Instr.auxField, and_ones, and_zeros]

theorem rbPopBack (r : Nat) : Statement (.rbPopBack r) := by
  refine pack_matches (hmask := (by decide : (0xFF00FFFF : Word) = pack 0xFF 0x00 0xFF 0xFF)) (hmatch := (by decide : (0x13000000 : Word) = pack 0x13 0x00 0x00 0x00)) ?_ ?_ ?_ ?_ <;>
    simp only [Instr.opcode, Instr.instField, Instr.idxField, Instr.auxField, and_ones, and_zeros]

theorem rbPopFront (r : Nat) : Statement (.rbPopFront r) := by
  refine pack_matches (hmask := (by decide : (0xFF00FFFF : Word) = pack 0xFF 0x00 0xFF 0xFF)) (hmatch := (by decide : (0x14000000 : Word) = pack 0x14 0x00 0x00 0x00)) ?_ ?_ ?_ ?_ <;>
    simp only [Instr.opcode, Instr.instField, Instr.idxField, Instr.auxField, and_ones, and_zeros]

theorem rbGet (r : Nat) (i : Nat) : Statement (.rbGet r i) := by
  refine pack_matches (hmask := (by decide : (0xFF0000FF : Word) = pack 0xFF 0x00 0x00 0xFF)) (hmatch := (by decide : (0x15000000 : Word) = pack 0x15 0x00 0x00 0x00)) ?_ ?_ ?_ ?_ <;>
    simp only [Instr.opcode, Instr.instField, Instr.idxField, Instr.auxField, and_ones, and_zeros]

theorem rbSet (r : Nat) (i : Nat) : Statement (.rbSet r i) := by
  refine pack_matches (hmask := (by decide : (0xFF0000FF : Word) = pack 0xFF 0x00 0x00 0xFF)) (hmatch := (by decide : (0x16000000 : Word) = pack 0x16 0x00 0x00 0x00)) ?_ ?_ ?_ ?_ <;>
    simp only [Instr.opcode, Instr.instField, Instr.idxField, Instr.auxField, and_ones, and_zeros]

theorem rbLength (r : Nat) : Statement (.rbLength r) := by
  refine pack_matches (hmask := (by decide : (0xFF00FFFF : Word) = pack 0xFF 0x00 0xFF 0xFF)) (hmatch := (by decide : (0x17000000 : Word) = pack 0x17 0x00 0x00 0x00)) ?_ ?_ ?_ ?_ <;>
    simp only [Instr.opcode, Instr.instField, Instr.idxField, Instr.auxField, and_ones, and_zeros]

theorem coefWr (bank : Bank) (i : Nat) : Statement (.coefWr bank i) := by
  refine pack_matches (hmask := (by decide : (0xFFFF00FE : Word) = pack 0xFF 0xFF 0x00 0xFE)) (hmatch := (by decide : (0x20000000 : Word) = pack 0x20 0x00 0x00 0x00)) ?_ ?_ ?_ ?_ <;>
    simp only [Instr.opcode, Instr.instField, Instr.idxField, Instr.auxField, and_ones, and_zeros, bankBit_and]

theorem filtInit (f : Nat) (o : Nat) : Statement (.filtInit f o) := by
  refine pack_matches (hmask := (by decide : (0xFF0000FF : Word) = pack 0xFF 0x00 0x00 0xFF)) (hmatch := (by decide : (0x21000000 : Word) = pack 0x21 0x00 0x00 0x00)) ?_ ?_ ?_ ?_ <;>
    simp only [Instr.opcode, Instr.instField, Instr.idxField, Instr.auxField, and_ones, and_zeros]

theorem filtValue (f : Nat) : Statement (.filtValue f) := by
  refine pack_matches (hmask := (by decide : (0xFF00FFFF : Word) = pack 0xFF 0x00 0xFF 0xFF)) (hmatch := (by decide : (0x22000000 : Word) = pack 0x22 0x00 0x00 0x00)) ?_ ?_ ?_ ?_ <;>
    simp only [Instr.opcode, Instr.instField, Instr.idxField, Instr.auxField, and_ones, and_zeros]

theorem filtLast (f : Nat) : Statement (.filtLast f) := by
  refine pack_matches (hmask := (by decide : (0xFF00FFFF : Word) = pack 0xFF 0x00 0xFF 0xFF)) (hmatch := (by decide : (0x23000000 : Word) = pack 0x23 0x00 0x00 0x00)) ?_ ?_ ?_ ?_ <;>
    simp only [Instr.opcode, Instr.instField, Instr.idxField, Instr.auxField, and_ones, and_zeros]

theorem filtSetto (f : Nat) : Statement (.filtSetto f) := by
  refine pack_matches (hmask := (by decide : (0xFF00FFFF : Word) = pack 0xFF 0x00 0xFF 0xFF)) (hmatch := (by decide : (0x24000000 : Word) = pack 0x24 0x00 0x00 0x00)) ?_ ?_ ?_ ?_ <;>
    simp only [Instr.opcode, Instr.instField, Instr.idxField, Instr.auxField, and_ones, and_zeros]

theorem filtShiftby (f : Nat) : Statement (.filtShiftby f) := by
  refine pack_matches (hmask := (by decide : (0xFF00FFFF : Word) = pack 0xFF 0x00 0xFF 0xFF)) (hmatch := (by decide : (0x25000000 : Word) = pack 0x25 0x00 0x00 0x00)) ?_ ?_ ?_ ?_ <;>
    simp only [Instr.opcode, Instr.instField, Instr.idxField, Instr.auxField, and_ones, and_zeros]

theorem filtRead (f : Nat) (i : Nat) (sel : Nat) : Statement (.filtRead f i sel) := by
  refine pack_matches (hmask := (by decide : (0xFF000000 : Word) = pack 0xFF 0x00 0x00 0x00)) (hmatch := (by decide : (0x26000000 : Word) = pack 0x26 0x00 0x00 0x00)) ?_ ?_ ?_ ?_ <;>
    simp only [Instr.opcode, Instr.instField, Instr.idxField, Instr.auxField, and_ones, and_zeros]

theorem ctrlInit (c : Nat) (o : Nat) (m : SelRule) : Statement (.ctrlInit c o m) := by
  refine pack_matches (hmask := (by decide : (0xFF0000FE : Word) = pack 0xFF 0x00 0x00 0xFE)) (hmatch := (by decide : (0x30000000 : Word) = pack 0x30 0x00 0x00 0x00)) ?_ ?_ ?_ ?_ <;>
    simp only [Instr.opcode, Instr.instField, Instr.idxField, Instr.auxField, and_ones, and_zeros, selBit_and]

theorem ctrlSetPos (c : Nat) : Statement (.ctrlSetPos c) := by
  refine pack_matches (hmask := (by decide : (0xFF00FFFF : Word) = pack 0xFF 0x00 0xFF 0xFF)) (hmatch := (by decide : (0x31000000 : Word) = pack 0x31 0x00 0x00 0x00)) ?_ ?_ ?_ ?_ <;>
    simp only [Instr.opcode, Instr.instField, Instr.idxField, Instr.auxField, and_ones, and_zeros]

theorem ctrlSetVel (c : Nat) : Statement (.ctrlSetVel c) := by
  refine pack_matches (hmask := (by decide : (0xFF00FFFF : Word) = pack 0xFF 0x00 0xFF 0xFF)) (hmatch := (by decide : (0x32000000 : Word) = pack 0x32 0x00 0x00 0x00)) ?_ ?_ ?_ ?_ <;>
    simp only [Instr.opcode, Instr.instField, Instr.idxField, Instr.auxField, and_ones, and_zeros]

theorem ctrlUpdate (c : Nat) : Statement (.ctrlUpdate c) := by
  refine pack_matches (hmask := (by decide : (0xFF00FFFF : Word) = pack 0xFF 0x00 0xFF 0xFF)) (hmatch := (by decide : (0x33000000 : Word) = pack 0x33 0x00 0x00 0x00)) ?_ ?_ ?_ ?_ <;>
    simp only [Instr.opcode, Instr.instField, Instr.idxField, Instr.auxField, and_ones, and_zeros]

theorem ctrlLast (c : Nat) : Statement (.ctrlLast c) := by
  refine pack_matches (hmask := (by decide : (0xFF00FFFF : Word) = pack 0xFF 0x00 0xFF 0xFF)) (hmatch := (by decide : (0x34000000 : Word) = pack 0x34 0x00 0x00 0x00)) ?_ ?_ ?_ ?_ <;>
    simp only [Instr.opcode, Instr.instField, Instr.idxField, Instr.auxField, and_ones, and_zeros]

theorem ctrlSetto (c : Nat) : Statement (.ctrlSetto c) := by
  refine pack_matches (hmask := (by decide : (0xFF00FFFF : Word) = pack 0xFF 0x00 0xFF 0xFF)) (hmatch := (by decide : (0x35000000 : Word) = pack 0x35 0x00 0x00 0x00)) ?_ ?_ ?_ ?_ <;>
    simp only [Instr.opcode, Instr.instField, Instr.idxField, Instr.auxField, and_ones, and_zeros]

theorem ctrlShiftby (c : Nat) : Statement (.ctrlShiftby c) := by
  refine pack_matches (hmask := (by decide : (0xFF00FFFF : Word) = pack 0xFF 0x00 0xFF 0xFF)) (hmatch := (by decide : (0x36000000 : Word) = pack 0x36 0x00 0x00 0x00)) ?_ ?_ ?_ ?_ <;>
    simp only [Instr.opcode, Instr.instField, Instr.idxField, Instr.auxField, and_ones, and_zeros]

theorem ctrlRead (c : Nat) (sel : Nat) : Statement (.ctrlRead c sel) := by
  refine pack_matches (hmask := (by decide : (0xFF00FF00 : Word) = pack 0xFF 0x00 0xFF 0x00)) (hmatch := (by decide : (0x37000000 : Word) = pack 0x37 0x00 0x00 0x00)) ?_ ?_ ?_ ?_ <;>
    simp only [Instr.opcode, Instr.instField, Instr.idxField, Instr.auxField, and_ones, and_zeros]

theorem qdInit (n : Nat) : Statement (.qdInit n) := by
  refine pack_matches (hmask := (by decide : (0xFF00FFFF : Word) = pack 0xFF 0x00 0xFF 0xFF)) (hmatch := (by decide : (0x40000000 : Word) = pack 0x40 0x00 0x00 0x00)) ?_ ?_ ?_ ?_ <;>
    simp only [Instr.opcode, Instr.instField, Instr.idxField, Instr.auxField, and_ones, and_zeros]

theorem qdRead (n : Nat) : Statement (.qdRead n) := by
  refine pack_matches (hmask := (by decide : (0xFF00FFFF : Word) = pack 0xFF 0x00 0xFF 0xFF)) (hmatch := (by decide : (0x41000000 : Word) = pack 0x41 0x00 0x00 0x00)) ?_ ?_ ?_ ?_ <;>
    simp only [Instr.opcode, Instr.instField, Instr.idxField, Instr.auxField, and_ones, and_zeros]

theorem qdReadBoth : Statement (.qdReadBoth) := by
  refine pack_matches (hmask := (by decide : (0xFFFFFFFF : Word) = pack 0xFF 0xFF 0xFF 0xFF)) (hmatch := (by decide : (0x42000000 : Word) = pack 0x42 0x00 0x00 0x00)) ?_ ?_ ?_ ?_ <;>
    simp only [Instr.opcode, Instr.instField, Instr.idxField, Instr.auxField, and_ones]

theorem qdAngle (n : Nat) : Statement (.qdAngle n) := by
  refine pack_matches (hmask := (by decide : (0xFF00FFFF : Word) = pack 0xFF 0x00 0xFF 0xFF)) (hmatch := (by decide : (0x43000000 : Word) = pack 0x43 0x00 0x00 0x00)) ?_ ?_ ?_ ?_ <;>
    simp only [Instr.opcode, Instr.instField, Instr.idxField, Instr.auxField, and_ones, and_zeros]

theorem qdSetScale (n : Nat) : Statement (.qdSetScale n) := by
  refine pack_matches (hmask := (by decide : (0xFF00FFFF : Word) = pack 0xFF 0x00 0xFF 0xFF)) (hmatch := (by decide : (0x44000000 : Word) = pack 0x44 0x00 0x00 0x00)) ?_ ?_ ?_ ?_ <;>
    simp only [Instr.opcode, Instr.instField, Instr.idxField, Instr.auxField, and_ones, and_zeros]

theorem qdState (n : Nat) : Statement (.qdState n) := by
  refine pack_matches (hmask := (by decide : (0xFF00FFFF : Word) = pack 0xFF 0x00 0xFF 0xFF)) (hmatch := (by decide : (0x45000000 : Word) = pack 0x45 0x00 0x00 0x00)) ?_ ?_ ?_ ?_ <;>
    simp only [Instr.opcode, Instr.instField, Instr.idxField, Instr.auxField, and_ones, and_zeros]

theorem qdInject (n : Nat) (x : Bool) (b : Bool) : Statement (.qdInject n x b) := by
  refine pack_matches (hmask := (by decide : (0xFF00FFFC : Word) = pack 0xFF 0x00 0xFF 0xFC)) (hmatch := (by decide : (0x46000000 : Word) = pack 0x46 0x00 0x00 0x00)) ?_ ?_ ?_ ?_ <;>
    simp only [Instr.opcode, Instr.instField, Instr.idxField, Instr.auxField, and_ones, and_zeros, sampleBits_and]

theorem timeRead : Statement (.timeRead) := by
  refine pack_matches (hmask := (by decide : (0xFFFFFFFF : Word) = pack 0xFF 0xFF 0xFF 0xFF)) (hmatch := (by decide : (0x50000000 : Word) = pack 0x50 0x00 0x00 0x00)) ?_ ?_ ?_ ?_ <;>
    simp only [Instr.opcode, Instr.instField, Instr.idxField, Instr.auxField, and_ones]

theorem flagArm (g : Nat) (subcmd : Byte) (cmd : Byte) : Statement (.flagArm g subcmd cmd) := by
  refine pack_matches (hmask := (by decide : (0xFF000000 : Word) = pack 0xFF 0x00 0x00 0x00)) (hmatch := (by decide : (0x51000000 : Word) = pack 0x51 0x00 0x00 0x00)) ?_ ?_ ?_ ?_ <;>
    simp only [Instr.opcode, Instr.instField, Instr.idxField, Instr.auxField, and_ones, and_zeros]

theorem flagCancel (g : Nat) : Statement (.flagCancel g) := by
  refine pack_matches (hmask := (by decide : (0xFF00FFFF : Word) = pack 0xFF 0x00 0xFF 0xFF)) (hmatch := (by decide : (0x52000000 : Word) = pack 0x52 0x00 0x00 0x00)) ?_ ?_ ?_ ?_ <;>
    simp only [Instr.opcode, Instr.instField, Instr.idxField, Instr.auxField, and_ones, and_zeros]

theorem flagPoll (g : Nat) : Statement (.flagPoll g) := by
  refine pack_matches (hmask := (by decide : (0xFF00FFFF : Word) = pack 0xFF 0x00 0xFF 0xFF)) (hmatch := (by decide : (0x53000000 : Word) = pack 0x53 0x00 0x00 0x00)) ?_ ?_ ?_ ?_ <;>
    simp only [Instr.opcode, Instr.instField, Instr.idxField, Instr.auxField, and_ones, and_zeros]

theorem flagDone (g : Nat) : Statement (.flagDone g) := by
  refine pack_matches (hmask := (by decide : (0xFF00FFFF : Word) = pack 0xFF 0x00 0xFF 0xFF)) (hmatch := (by decide : (0x54000000 : Word) = pack 0x54 0x00 0x00 0x00)) ?_ ?_ ?_ ?_ <;>
    simp only [Instr.opcode, Instr.instField, Instr.idxField, Instr.auxField, and_ones, and_zeros]

theorem flagRead (g : Nat) (sel : Nat) : Statement (.flagRead g sel) := by
  refine pack_matches (hmask := (by decide : (0xFF00FF00 : Word) = pack 0xFF 0x00 0xFF 0x00)) (hmatch := (by decide : (0x55000000 : Word) = pack 0x55 0x00 0x00 0x00)) ?_ ?_ ?_ ?_ <;>
    simp only [Instr.opcode, Instr.instField, Instr.idxField, Instr.auxField, and_ones, and_zeros]

theorem flagDefault (g : Nat) : Statement (.flagDefault g) := by
  refine pack_matches (hmask := (by decide : (0xFF00FFFF : Word) = pack 0xFF 0x00 0xFF 0xFF)) (hmatch := (by decide : (0x56000000 : Word) = pack 0x56 0x00 0x00 0x00)) ?_ ?_ ?_ ?_ <;>
    simp only [Instr.opcode, Instr.instField, Instr.idxField, Instr.auxField, and_ones, and_zeros]

end Laws.TableRow

end Sys2Proof
end

