-- ==== Sys2Proof/Laws/Rings.lean ====
section
/-! SUPPORT. The ring operations keep a ring buffer a ring buffer (R36), and what each does to its indices and slots. -/

namespace Sys2Proof.Machine

variable {n : Nat} {B : Ring}

theorem Ring.length_lt (h : 0 < n) (B : Ring) : B.length n < n := Nat.mod_lt _ h

/-- The length in terms of the indices (R140). -/
theorem Ring.length_eq (h : B.Wf n) :
    B.length n = if B.start ≤ B.stop then B.stop - B.start else B.stop + n - B.start := by
  obtain ⟨-, hs, he⟩ := h
  unfold Ring.length
  split
  · rw [show B.stop + n - B.start = (B.stop - B.start) + n by omega, Nat.add_mod_right, Nat.mod_eq_of_lt (by omega)]
  · exact Nat.mod_eq_of_lt (by omega)

@[simp] theorem Ring.isEmpty_iff : B.isEmpty n = true ↔ B.length n = 0 := by simp [Ring.isEmpty]

@[simp] theorem Ring.fresh_slot (n : Nat) : (Ring.fresh n).slot = List.replicate n 0 := rfl
@[simp] theorem Ring.fresh_start (n : Nat) : (Ring.fresh n).start = 0 := rfl
@[simp] theorem Ring.fresh_stop (n : Nat) : (Ring.fresh n).stop = 0 := rfl

@[simp] theorem Ring.pushBack_slot (n : Nat) (B : Ring) (v : Word) : (B.pushBack n v).slot = B.slot.set B.stop v := rfl
@[simp] theorem Ring.pushBack_stop (n : Nat) (B : Ring) (v : Word) : (B.pushBack n v).stop = (B.stop + 1) % n := rfl
theorem Ring.pushBack_start (n : Nat) (B : Ring) (v : Word) :
    (B.pushBack n v).start = if (B.stop + 1) % n = B.start then (B.start + 1) % n else B.start := rfl

@[simp] theorem Ring.pushFront_slot (n : Nat) (B : Ring) (v : Word) :
    (B.pushFront n v).slot = B.slot.set ((B.start + n - 1) % n) v := rfl
@[simp] theorem Ring.pushFront_start (n : Nat) (B : Ring) (v : Word) :
    (B.pushFront n v).start = (B.start + n - 1) % n := rfl
theorem Ring.pushFront_stop (n : Nat) (B : Ring) (v : Word) :
    (B.pushFront n v).stop = if (B.start + n - 1) % n = B.stop then (B.stop + n - 1) % n else B.stop := rfl

@[simp] theorem Ring.put_slot (n : Nat) (B : Ring) (i : Nat) (v : Word) :
    (B.put n i v).slot = B.slot.set ((B.start + i) % n) v := rfl
@[simp] theorem Ring.put_start (n : Nat) (B : Ring) (i : Nat) (v : Word) : (B.put n i v).start = B.start := rfl
@[simp] theorem Ring.put_stop (n : Nat) (B : Ring) (i : Nat) (v : Word) : (B.put n i v).stop = B.stop := rfl
@[simp] theorem Ring.put_length (n : Nat) (B : Ring) (i : Nat) (v : Word) : (B.put n i v).length n = B.length n := rfl

/-- All a pop can do (R144): nothing to an empty buffer, else the end moves back by one. -/
theorem Ring.popBack_cases (n : Nat) (B : Ring) :
    (B.length n = 0 ∧ B.popBack n = (0, B)) ∨
    (B.length n ≠ 0 ∧ B.popBack n =
      (B.slot.getD ((B.stop + n - 1) % n) 0, { B with stop := (B.stop + n - 1) % n })) := by
  unfold Ring.popBack
  by_cases h : B.length n = 0
  · exact .inl ⟨h, if_pos (Ring.isEmpty_iff.2 h)⟩
  · exact .inr ⟨h, if_neg (fun e => h (Ring.isEmpty_iff.1 e))⟩

/-- All a pop can do (R145): nothing to an empty buffer, else the start moves on by one. -/
theorem Ring.popFront_cases (n : Nat) (B : Ring) :
    (B.length n = 0 ∧ B.popFront n = (0, B)) ∨
    (B.length n ≠ 0 ∧ B.popFront n = (B.slot.getD B.start 0, { B with start := (B.start + 1) % n })) := by
  unfold Ring.popFront
  by_cases h : B.length n = 0
  · exact .inl ⟨h, if_pos (Ring.isEmpty_iff.2 h)⟩
  · exact .inr ⟨h, if_neg (fun e => h (Ring.isEmpty_iff.1 e))⟩

theorem Ring.fresh_wf (h : 0 < n) : (Ring.fresh n).Wf n := ⟨List.length_replicate, h, h⟩

theorem Ring.pos_of_wf (h : B.Wf n) : 0 < n := Nat.lt_of_le_of_lt (Nat.zero_le _) h.2.1

theorem Ring.pushBack_wf (h : B.Wf n) (v : Word) : (B.pushBack n v).Wf n := by
  have hn := Ring.pos_of_wf h
  refine ⟨by simpa using h.1, ?_, Nat.mod_lt _ hn⟩
  rw [Ring.pushBack_start]; split
  · exact Nat.mod_lt _ hn
  · exact h.2.1

theorem Ring.pushFront_wf (h : B.Wf n) (v : Word) : (B.pushFront n v).Wf n := by
  have hn := Ring.pos_of_wf h
  refine ⟨by simpa using h.1, Nat.mod_lt _ hn, ?_⟩
  rw [Ring.pushFront_stop]; split
  · exact Nat.mod_lt _ hn
  · exact h.2.2

theorem Ring.popBack_wf (h : B.Wf n) : (B.popBack n).2.Wf n := by
  obtain ⟨-, e⟩ | ⟨-, e⟩ := B.popBack_cases n <;> rw [e]
  · exact h
  · exact ⟨h.1, h.2.1, Nat.mod_lt _ (Ring.pos_of_wf h)⟩

theorem Ring.popFront_wf (h : B.Wf n) : (B.popFront n).2.Wf n := by
  obtain ⟨-, e⟩ | ⟨-, e⟩ := B.popFront_cases n <;> rw [e]
  · exact h
  · exact ⟨h.1, Nat.mod_lt _ (Ring.pos_of_wf h), h.2.2⟩

theorem Ring.put_wf (h : B.Wf n) (i : Nat) (v : Word) : (B.put n i v).Wf n :=
  ⟨by simpa using h.1, h.2⟩

theorem filtShift_wf (h : B.Wf n) (v : Word) : (filtShift n B v).Wf n :=
  Ring.popBack_wf (Ring.pushFront_wf h v)

theorem filled_wf (h : 0 < n) (v : Nat → Word) (k : Nat) : (filled n v k).Wf n := by
  induction k with
  | zero => exact Ring.fresh_wf h
  | succ k ih => exact Ring.pushBack_wf ih (v k)

theorem mapLive_wf (h : B.Wf n) (f : Nat → Word → Word) (k : Nat) : (mapLive n f B k).Wf n := by
  induction k with
  | zero => exact h
  | succ k ih => exact Ring.put_wf ih k _

/-- Rewriting live elements moves no index (R147). -/
theorem mapLive_indices (f : Nat → Word → Word) (k : Nat) :
    (mapLive n f B k).start = B.start ∧ (mapLive n f B k).stop = B.stop := by
  induction k with
  | zero => exact ⟨rfl, rfl⟩
  | succ k ih => exact ih

theorem mapLive_length (f : Nat → Word → Word) (k : Nat) : (mapLive n f B k).length n = B.length n := by
  simp [Ring.length, mapLive_indices f k]

end Sys2Proof.Machine
end

