-- ==== Sys2Proof/Tests/Slice0.lean ====
section
/-! SUPPORT. Tests: ill-formed commands refused, every command decoded from a word written out from R103, one-step tests
whose expected values are the spec's examples, and a witness for the hypotheses of every statement. -/

namespace Sys2Proof.Tests

open Sys2Proof Sys2Proof.Machine Sys2Proof.Claims

/-! ### WellFormed: a term refused by each check (R111) -/

theorem test_wf_refuses_rb :
    ([.rbInit 256, .rbPushBack 256, .rbPushFront 256, .rbPopBack 256, .rbPopFront 256, .rbLength 256, .rbGet 256
      0, .rbGet 0 256, .rbSet 256 0, .rbSet 0 256] : List Instr).all
      (fun i => !i.wellFormed) = true := by
  decide

theorem test_wf_refuses_filt :
    ([.coefWr .numer 256, .filtInit 256 0, .filtInit 0 256, .filtValue 256, .filtLast 256, .filtSetto 256,
      .filtShiftby 256, .filtRead 256 0 0, .filtRead 0 256 0, .filtRead 0 0 256] : List Instr).all
      (fun i => !i.wellFormed) = true := by
  decide

theorem test_wf_refuses_ctrl :
    ([.ctrlInit 256 0 .sign, .ctrlInit 0 256 .sign, .ctrlSetPos 256, .ctrlSetVel 256, .ctrlUpdate 256, .ctrlLast
      256, .ctrlSetto 256, .ctrlShiftby 256, .ctrlRead 256 0, .ctrlRead 0 256] : List Instr).all
      (fun i => !i.wellFormed) = true := by
  decide

theorem test_wf_refuses_qd :
    ([.qdInit 256, .qdRead 256, .qdAngle 256, .qdSetScale 256, .qdState 256, .qdInject 256 true true] : List Instr).all
      (fun i => !i.wellFormed) = true := by
  decide

theorem test_wf_refuses_flag :
    ([.flagArm 256 0 0, .flagCancel 256, .flagPoll 256, .flagDone 256, .flagDefault 256, .flagRead 256 0,
      .flagRead 0 256] : List Instr).all
      (fun i => !i.wellFormed) = true := by
  decide

/-! ### Decoding: a word for each command, written out from the encoding table of R103 -/

theorem test_decode_nop : decode 0x00000000 = .ok .nop := by decide
theorem test_decode_softReset : decode 0x01000000 = .ok .softReset := by decide
theorem test_decode_rbInit : decode 0x10010000 = .ok (.rbInit 1) := by decide
theorem test_decode_rbPushBack : decode 0x11010000 = .ok (.rbPushBack 1) := by decide
theorem test_decode_rbPushFront : decode 0x12010000 = .ok (.rbPushFront 1) := by decide
theorem test_decode_rbPopBack : decode 0x13010000 = .ok (.rbPopBack 1) := by decide
theorem test_decode_rbPopFront : decode 0x14010000 = .ok (.rbPopFront 1) := by decide
theorem test_decode_rbGet : decode 0x15010700 = .ok (.rbGet 1 7) := by decide
theorem test_decode_rbSet : decode 0x16010700 = .ok (.rbSet 1 7) := by decide
theorem test_decode_rbLength : decode 0x17010000 = .ok (.rbLength 1) := by decide
theorem test_decode_coefWr : decode 0x20000301 = .ok (.coefWr .denom 3) := by decide
theorem test_decode_filtInit : decode 0x21020500 = .ok (.filtInit 2 5) := by decide
theorem test_decode_filtValue : decode 0x22020000 = .ok (.filtValue 2) := by decide
theorem test_decode_filtLast : decode 0x23020000 = .ok (.filtLast 2) := by decide
theorem test_decode_filtSetto : decode 0x24020000 = .ok (.filtSetto 2) := by decide
theorem test_decode_filtShiftby : decode 0x25020000 = .ok (.filtShiftby 2) := by decide
theorem test_decode_filtRead : decode 0x26020301 = .ok (.filtRead 2 3 1) := by decide
theorem test_decode_ctrlInit : decode 0x30010201 = .ok (.ctrlInit 1 2 .mode) := by decide
theorem test_decode_ctrlSetPos : decode 0x31010000 = .ok (.ctrlSetPos 1) := by decide
theorem test_decode_ctrlSetVel : decode 0x32010000 = .ok (.ctrlSetVel 1) := by decide
theorem test_decode_ctrlUpdate : decode 0x33010000 = .ok (.ctrlUpdate 1) := by decide
theorem test_decode_ctrlLast : decode 0x34010000 = .ok (.ctrlLast 1) := by decide
theorem test_decode_ctrlSetto : decode 0x35010000 = .ok (.ctrlSetto 1) := by decide
theorem test_decode_ctrlShiftby : decode 0x36010000 = .ok (.ctrlShiftby 1) := by decide
theorem test_decode_ctrlRead : decode 0x37010003 = .ok (.ctrlRead 1 3) := by decide
theorem test_decode_qdInit : decode 0x40010000 = .ok (.qdInit 1) := by decide
theorem test_decode_qdRead : decode 0x41010000 = .ok (.qdRead 1) := by decide
theorem test_decode_qdReadBoth : decode 0x42000000 = .ok .qdReadBoth := by decide
theorem test_decode_qdAngle : decode 0x43010000 = .ok (.qdAngle 1) := by decide
theorem test_decode_qdSetScale : decode 0x44010000 = .ok (.qdSetScale 1) := by decide
theorem test_decode_qdState : decode 0x45010000 = .ok (.qdState 1) := by decide
theorem test_decode_qdInject : decode 0x46010002 = .ok (.qdInject 1 true false) := by decide
theorem test_decode_timeRead : decode 0x50000000 = .ok .timeRead := by decide
theorem test_decode_flagArm : decode 0x51061274 = .ok (.flagArm 6 0x12 0x74) := by decide
theorem test_decode_flagCancel : decode 0x52060000 = .ok (.flagCancel 6) := by decide
theorem test_decode_flagPoll : decode 0x53060000 = .ok (.flagPoll 6) := by decide
theorem test_decode_flagDone : decode 0x54060000 = .ok (.flagDone 6) := by decide
theorem test_decode_flagRead : decode 0x55060004 = .ok (.flagRead 6 4) := by decide
theorem test_decode_flagDefault : decode 0x56060000 = .ok (.flagDefault 6) := by decide
theorem test_decode_illegal : decode 0x57000000 = .error .illegalOpcode := by decide
theorem test_decode_reserved_before_instance : decode 0x10FF0001 = .error .reservedField := by decide
theorem test_decodeTableWord_short : decodeTableWord 32 0x46010003 = some (.qdInject 1 true true) := by decide

/-! ### One step -/

/-- The block after reset in TC, with the pin levels known: all low. -/
def still : State :=
  { State.reset with qdLeft := ⟨false, false, false, 0, 0x3D000000⟩, qdRight := ⟨false, false, false, 0, 0x3D000000⟩ }

/-- The state after the host writes this command word to CMD. -/
def after (w : Nat) (s : State) : Option State :=
  match step (s.withFetchWord 32 w) with
  | .next t => some t
  | .fault _ => none
  | .refused _ => none

/-- The state after one event. -/
def happen (e : Event) (s : State) : Option State :=
  match step { s with agenda := [e] } with
  | .next t => some t
  | .fault _ => none
  | .refused _ => none

/-- A ring of eight slots with these live elements, from slot 0. -/
def ringOf (l : List Word) : Ring := ⟨l ++ List.replicate (8 - l.length) 0, 0, l.length⟩

/-- RB[0] holds these live elements. -/
def withRing (l : List Word) : State := { still with rb := [ringOf l, Ring.fresh 8] }

/-- The order-1 filter of R181, b = (0.5, 0.5), a = (1, 0), with these histories. -/
def filtOf (x y : List Word) : Filt :=
  ⟨true, 1, ringOf [0x3F000000, 0x3F000000], ringOf [0x3F800000, 0], ringOf x, ringOf y⟩

/-- FILT[0] is that filter, and its coefficients are staged. -/
def withFilt (x y : List Word) : State :=
  { still with
    stageB := [0x3F000000, 0x3F000000, 0, 0, 0, 0], stageA := [0x3F800000, 0, 0, 0, 0, 0]
    filt := [filtOf x y, Filt.fresh 8, Filt.fresh 8] }

/-- CTRL[0] of R260, Kp = 2.0 and period = 0.5, with these targets, over a filter with zero histories. -/
def withCtrl (tpos tvel : Word) (m : CtrlMode) : State :=
  { withFilt [0, 0] [0, 0] with ctrl := [⟨true, 0x40000000, 0x3F000000, tpos, tvel, m, .sign⟩, Ctrl.fresh] }

/-- FLAG[0] is this flag, at this time. -/
def withFlag (G : Flag) (t : TimePoint) : State :=
  { still with flags := G :: List.replicate 6 Flag.fresh, time := t }

/-- The repeating flag of R301: 0.05 s, cmd 0x74. -/
def repeating : Flag := ⟨true, 0x3D4CCCCD, ⟨0, 0⟩, 0x74, 0x00⟩

/-- R130, example. -/
theorem test_nop :
    (after 0x00000000 { still with res0 := 0x12345678 }).map (fun t => (t.res0, t.status)) = some (0x12345678, 0) := by decide

/-- R131. -/
theorem test_softReset :
    (after 0x01000000 { still with arg0 := 5, res1 := 6, status := 0x10000301 }).map
      (fun t => (t.arg0, t.res1, t.status, t.time)) = some (0, 0, 0, ⟨0, 0⟩) := by decide

/-- R150, example. -/
theorem test_rbInit :
    (after 0x10000000 (withRing [0x11])).map (fun t => (t.ring 0)) = some (Ring.fresh 8) := by decide

/-- R151, example. -/
theorem test_rbPushBack_full :
    (after 0x11000000 { withRing [1, 2, 3, 4, 5, 6, 7] with arg0 := 8 }).map (fun t => (t.ring 0).live 8) =
      some [2, 3, 4, 5, 6, 7, 8] := by decide

/-- R143: the old back is dropped. -/
theorem test_rbPushFront_full :
    (after 0x12000000 { withRing [1, 2, 3, 4, 5, 6, 7] with arg0 := 8 }).map (fun t => (t.ring 0).live 8) =
      some [8, 1, 2, 3, 4, 5, 6] := by decide

/-- R153, example. -/
theorem test_rbPopBack :
    (after 0x13000000 (withRing [0xA, 0xB])).map (fun t => (t.res0, (t.ring 0).live 8)) = some (0xB, [0xA]) := by decide

/-- R153: an empty buffer gives 0. -/
theorem test_rbPopBack_empty :
    (after 0x13000000 { still with res0 := 9 }).map (fun t => (t.res0, t.ring 0)) = some (0, Ring.fresh 8) := by decide

/-- R145. -/
theorem test_rbPopFront :
    (after 0x14000000 (withRing [0xA, 0xB])).map (fun t => (t.res0, (t.ring 0).live 8)) = some (0xA, [0xB]) := by decide

/-- R146. -/
theorem test_rbGet :
    (after 0x15000200 (withRing [1, 2, 3])).map (·.res0) = some 3 := by decide

/-- R155, R331: BAD_INDEX for i = N. -/
theorem test_rbGet_index :
    (after 0x15000800 (withRing [1, 2, 3])).map (·.status) = some 0x15000601 := by decide

/-- R147. -/
theorem test_rbSet :
    (after 0x16000100 { withRing [1, 2, 3] with arg0 := 9 }).map (fun t => (t.ring 0).live 8) = some [1, 9, 3] := by decide

/-- R157. -/
theorem test_rbLength :
    (after 0x17000000 (withRing [1, 2])).map (·.res0) = some 2 := by decide

/-- R106, R331: BAD_INSTANCE. -/
theorem test_rbLength_instance :
    (after 0x17020000 still).map (fun t => (t.res0, t.status)) = some (0, 0x17000301) := by decide

/-- R180, example. -/
theorem test_coefWr :
    (after 0x20000001 { still with arg0 := 0x40A00000 }).map (fun t => (t.stagedA 0, t.stagedB 0)) = some (0x40A00000, 0) := by decide

/-- R180: BAD_INDEX above MAX_ORDER. -/
theorem test_coefWr_index :
    (after 0x20000600 still).map (·.status) = some 0x20000601 := by decide

/-- R181, example. -/
theorem test_filtInit :
    (after 0x21020100 (withFilt [1, 2] [3, 4])).map (·.filter 2) = some (filtOf [0, 0] [0, 0]) := by decide

/-- R333: BAD_ORDER before ZERO_A0. -/
theorem test_filtInit_order_before_a0 :
    (after 0x21000600 still).map (·.status) = some 0x21000701 := by decide

/-- R182, example. -/
theorem test_filtValue_first :
    (after 0x22000000 { withFilt [0, 0] [0, 0] with arg0 := 0x40000000 }).map (·.res0) = some 0x3F800000 := by decide

/-- R182, example. -/
theorem test_filtValue_second :
    (after 0x22000000 { withFilt [0x40000000, 0] [0x3F800000, 0] with arg0 := 0x40000000 }).map
      (fun t => (t.res0, liveOut t 0)) = some (0x40000000, [0x40000000, 0x3F800000]) := by decide

/-- R183, example. -/
theorem test_filtLast :
    (after 0x23000000 (withFilt [0, 0] [0x40000000, 0x3F800000])).map (·.res0) = some 0x40000000 := by decide

/-- R184, example. -/
theorem test_filtSetto :
    (after 0x24000000 { withFilt [0, 0] [0, 0] with arg0 := 0x40400000 }).map (fun t => (liveIn t 0, liveOut t 0)) =
      some ([0x40400000, 0x40400000], [0x40400000, 0x40400000]) := by decide

/-- R185, example. -/
theorem test_filtShiftby :
    (after 0x25000000 { withFilt [0x40400000, 0x40400000] [0x40400000, 0x40400000] with arg0 := 0xBF800000 }).map
      (fun t => (liveIn t 0, liveOut t 0)) = some ([0x40000000, 0x40000000], [0x40000000, 0x40000000]) := by decide

/-- R186, example. -/
theorem test_filtRead_a :
    (after 0x26000001 (withFilt [0, 0] [0, 0])).map (·.res0) = some 0x3F800000 := by decide

/-- R186, example. -/
theorem test_filtRead_cfg :
    (after 0x26000004 (withFilt [0, 0] [0, 0])).map (·.res0) = some 0x00000101 := by decide

/-- R260, example. -/
theorem test_ctrlInit :
    (after 0x30000100 { withFilt [1, 2] [3, 4] with arg0 := 0x40000000, arg1 := 0x3F000000 }).map
      (fun t => (t.controller 0, t.filter 0)) =
      some (⟨true, 0x40000000, 0x3F000000, 0, 0, .pos, .sign⟩, filtOf [0, 0] [0, 0]) := by decide

/-- R260: ZERO_A0 with nothing staged. -/
theorem test_ctrlInit_a0 :
    (after 0x30000101 still).map (fun t => (t.status, (t.controller 0).valid)) = some (0x30000801, false) := by decide

/-- R261, example. -/
theorem test_ctrlSetPos :
    (after 0x31000000 { withCtrl 0 0x40800000 .vel with arg0 := 0x40800000 }).map
      (fun t => ((t.controller 0).targetPos, (t.controller 0).targetVel, (t.controller 0).mode)) =
      some (0x40000000, 0, .pos) := by decide

/-- R262, example. -/
theorem test_ctrlSetVel :
    (after 0x32000000 { withCtrl 0x40000000 0 .pos with arg0 := 0x40800000 }).map
      (fun t => ((t.controller 0).targetPos, (t.controller 0).targetVel, (t.controller 0).mode)) =
      some (0x40000000, 0x40800000, .vel) := by decide

/-- R251: m = 1, filtered = 0.5, 2 × (2 − 0.5) = 3. -/
theorem test_ctrlUpdate_position :
    (after 0x33000000 { withCtrl 0x40000000 0 .pos with arg0 := 0x3F800000, arg1 := 0x3E800000 }).map
      (fun t => (t.res0, t.res1)) = some (0x40400000, 0x3F000000) := by decide

/-- R251: target 1 + 0.25 × 8 = 3, 2 × (3 − 0.5) = 5. -/
theorem test_ctrlUpdate_velocity :
    (after 0x33000000 { withCtrl 0x40000000 0x41000000 .vel with arg0 := 0x3F800000, arg1 := 0x3E800000 }).map
      (fun t => (t.res0, t.res1)) = some (0x40A00000, 0x3F000000) := by decide

/-- R264. -/
theorem test_ctrlLast :
    (after 0x34000000 { withCtrl 0 0 .pos with filt := [filtOf [0, 0] [0x3F800000, 0], Filt.fresh 8, Filt.fresh 8] }).map (·.res0) =
      some 0x3F800000 := by decide

/-- R264: NOT_INIT though the filter is valid. -/
theorem test_ctrlLast_notInit :
    (after 0x34000000 (withFilt [0, 0] [0, 0])).map (·.status) = some 0x34000501 := by decide

/-- R265, example. -/
theorem test_ctrlSetto :
    (after 0x35000000 { withCtrl 0 0 .pos with arg0 := 0x40A00000 }).map (fun t => (liveIn t 0, liveOut t 0)) =
      some ([0x40A00000, 0x40A00000], [0x40A00000, 0x40A00000]) := by decide

/-- R266, example. -/
theorem test_ctrlShiftby :
    (after 0x36000000 { withCtrl 0 0 .pos with
      arg0 := 0xBF800000, filt := [filtOf [0, 0] [0x40A00000, 0x40A00000], Filt.fresh 8, Filt.fresh 8] }).map
      (fun t => liveOut t 0) = some [0x40800000, 0x40800000] := by decide

/-- R262, example: valid, mode VEL, sel 0. -/
theorem test_ctrlRead_cfg :
    (after 0x37000004 (withCtrl 0 0x40800000 .vel)).map (·.res0) = some 0x00000003 := by decide

/-- R267, example. -/
theorem test_ctrlRead_reset :
    (after 0x37010004 still).map (fun t => (t.res0, t.status)) = some (0, 0) := by decide

/-- R216: the count is cleared and SCALE kept. -/
theorem test_qdInit :
    (after 0x40000000 { still with qdLeft := ⟨true, false, true, 7, 0x3F800000⟩ }).map
      (fun t => (t.qdLeft.count, t.qdLeft.scale)) = some (0, 0x3F800000) := by decide

/-- R221: count −1. -/
theorem test_qdRead :
    (after 0x41010000 { still with qdRight := ⟨false, false, false, 0xFFFFFFFF, 0⟩ }).map (·.res0) = some 0xFFFFFFFF := by decide

/-- R222. -/
theorem test_qdReadBoth :
    (after 0x42000000 { still with qdLeft := ⟨false, false, false, 4, 0⟩, qdRight := ⟨false, false, false, 5, 0⟩ }).map
      (fun t => (t.res0, t.res1)) = some (4, 5) := by decide

/-- R215: −32 counts of 0.03125 are −1.0. -/
theorem test_qdAngle :
    (after 0x43000000 { still with qdLeft := ⟨false, false, false, 0xFFFFFFE0, 0x3D000000⟩ }).map (·.res0) =
      some 0xBF800000 := by decide

/-- R224. -/
theorem test_qdSetScale :
    (after 0x44010000 { still with arg0 := 0x3F800000 }).map (fun t => (t.qdLeft.scale, t.qdRight.scale)) =
      some (0x3D000000, 0x3F800000) := by decide

/-- R225: X_last, B_last, A_last are bits 2, 1, 0. -/
theorem test_qdState :
    (after 0x45000000 { still with qdLeft := ⟨false, true, true, 0, 0⟩ }).map (·.res0) = some 6 := by decide

/-- R212, first row, word of R226. -/
theorem test_qdInject_forward :
    (after 0x46000002 still).map (·.qdLeft) = some ⟨true, false, true, 1, 0x3D000000⟩ := by decide

/-- R214: a decrement from 0x80000000. -/
theorem test_qdInject_wraps :
    (after 0x46000003 { still with qdLeft := ⟨false, false, false, 0x80000000, 0⟩ }).map (·.qdLeft.count) = some 0x7FFFFFFF := by decide

/-- R300, example. -/
theorem test_timeRead :
    (after 0x50000000 { still with time := ⟨50, 1⟩ }).map (fun t => (t.res0, t.res1)) = some (0x32, 1) := by decide

/-- R301, example. -/
theorem test_flagArm :
    (after 0x51000074 { still with arg0 := 0x3D4CCCCD }).map (fun t => t.flag 0) = some repeating := by decide

/-- R302, example. -/
theorem test_flagCancel :
    (after 0x52000000 (withFlag repeating ⟨50, 1⟩)).map (fun t => t.flag 0) = some ⟨false, 0xBF800000, ⟨0, 0⟩, 0x74, 0⟩ := by decide

/-- R303, example: 0 at 12500 ticks. -/
theorem test_flagPoll_early :
    (after 0x53000000 (withFlag repeating ⟨50, 0⟩)).map (·.res0) = some 0 := by decide

/-- R303, example: 1 at 12501 ticks. -/
theorem test_flagPoll_due :
    (after 0x53000000 (withFlag repeating ⟨50, 1⟩)).map (·.res0) = some 1 := by decide

/-- R304, example. -/
theorem test_flagDone_repeating :
    (after 0x54000000 (withFlag repeating ⟨50, 1⟩)).map (fun t => ((t.flag 0).active, (t.flag 0).last)) =
      some (true, ⟨50, 1⟩) := by decide

/-- R304. -/
theorem test_flagDone_oneShot :
    (after 0x54000000 (withFlag { repeating with duration := 0xBF800000 } ⟨50, 1⟩)).map
      (fun t => ((t.flag 0).active, (t.flag 0).last)) = some (false, ⟨0, 0⟩) := by decide

/-- R305. -/
theorem test_flagRead_ids :
    (after 0x55000004 (withFlag { repeating with subcmd := 0x12 } ⟨0, 0⟩)).map (·.res0) = some 0x00001274 := by decide

/-- R305, example. -/
theorem test_flagRead_reset :
    (after 0x55030001 still).map (·.res0) = some 0xBF800000 := by decide

/-- R306, example. -/
theorem test_flagDefault :
    (after 0x56000000 (withFlag { repeating with last := ⟨50, 1⟩ } ⟨50, 1⟩)).map (fun t => t.flag 0) = some Flag.fresh := by decide

/-- R291. -/
theorem test_tick_carries :
    (happen .tick { still with time := ⟨0xFFFFFFFF, 249⟩ }).map (·.time) = some ⟨0, 0⟩ := by decide

/-- R73: code 9, INFO the low byte of the offset, and 0 is read. -/
theorem test_access_misaligned :
    (happen (.read 6 4) { still with arg0 := 7 }).map (fun t => (t.status, t.readData, t.observed)) =
      some (0x06000901, 0, []) := by decide

/-- R17: a read of CMD is not observed, a read of ARG0 is. -/
theorem test_observation :
    (happen (.read 0 4) { still with arg0 := 7, observed := [1] }).map (·.observed) = some [1] ∧
    (happen (.read 4 4) { still with arg0 := 7, observed := [1] }).map (·.observed) = some [1, 7] := by decide

/-- R370: in reset no access is accepted; the release applies the reset procedure. -/
theorem test_reset_input :
    (happen .resetAssert still).map (·.resetHeld) = some true ∧
    (happen (.write 4 4 1) { still with resetHeld := true }).isNone = true ∧
    (happen .resetRelease { still with resetHeld := true, arg0 := 7, status := 0x15000601 }).map
      (fun t => (t.resetHeld, t.arg0, t.status)) = some (false, 0, 0) := by decide

/-- R331: MULTI, and the first record kept. -/
theorem test_second_fault :
    (after 0xFF000000 { still with status := 0x15000601 }).map (·.status) = some 0x15000603 := by decide

/-- R78, TC. -/
theorem test_params :
    (param0Word Config.tc, param1Word Config.tc) = (0x00072323, 0x000000FA) := by decide

/-- R11: 1 + 2^(-24) is a tie and goes to 1. -/
theorem test_round_ties_even :
    fadd 0 0x3F800000 0x33800000 = 0x3F800000 := by decide

/-- R11: half the least subnormal is a tie and goes to 0, three halves to 2. -/
theorem test_round_subnormal :
    (fmul 0 0x00000001 0x3F000000, fmul 0 0x00000003 0x3F000000) = (0, 2) := by decide

/-! ### A state that meets the invariant, with valid units, and what its hypotheses share -/

/-- A state in use: RB[0] holds three words, RB[1] is full, FILT[0] and CTRL[0] are valid, FLAG[0] is repeating. -/
def live : State :=
  { withCtrl 0x40000000 0 .pos with
    arg0 := 0xBF800000
    rb := [ringOf [1, 2, 3], ringOf [1, 2, 3, 4, 5, 6, 7]]
    flags := repeating :: List.replicate 6 Flag.fresh
    time := ⟨1, 2⟩ }

/-- The same with these events to come. -/
def liveFor (l : List Event) : State := { live with agenda := l }

theorem fresh_wf : Filt.Wf Config.tc (Filt.fresh 8) where
  order_le := by decide
  bufB_wf := by decide
  bufA_wf := by decide
  bufIn_wf := by decide
  bufOut_wf := by decide
  bufB_length := by decide
  bufA_length := by decide
  bufIn_length := by decide
  bufOut_length := by decide
  a0_ne_zero := by decide
  fresh_of_invalid := by decide

theorem filtOf_wf : Filt.Wf Config.tc (filtOf [0, 0] [0, 0]) where
  order_le := by decide
  bufB_wf := by decide
  bufA_wf := by decide
  bufIn_wf := by decide
  bufOut_wf := by decide
  bufB_length := by decide
  bufA_length := by decide
  bufIn_length := by decide
  bufOut_length := by decide
  a0_ne_zero := by decide
  fresh_of_invalid := by decide

/-- The witness of every statement with the invariant as a hypothesis. -/
theorem live_inv (l : List Event) : (liveFor l).Inv where
  cfg_legal := by show configLegal Config.tc = true; decide
  rb_length := rfl
  rb_wf := by show ∀ B ∈ [ringOf [1, 2, 3], ringOf [1, 2, 3, 4, 5, 6, 7]], B.Wf 8; decide
  stageB_length := rfl
  stageA_length := rfl
  filt_length := rfl
  filt_wf := by
    show ∀ F ∈ [filtOf [0, 0] [0, 0], Filt.fresh 8, Filt.fresh 8], F.Wf Config.tc
    simpa using ⟨filtOf_wf, fresh_wf⟩
  ctrl_length := rfl
  ctrl_filter_valid := by
    show ∀ c, c < 2 → (live.controller c).valid = true → (live.filter c).valid = true; decide
  qdLeft_wf := rfl
  qdRight_wf := rfl
  time_fine_lt := by show 2 < 250; decide
  flags_length := rfl
  flags_fine_lt := by
    show ∀ G ∈ repeating :: List.replicate 6 Flag.fresh, G.last.fine.toNat < 250; decide
  status_wf := by show StatusWf 0; decide

/-- The configuration of `liveFor` is legal, and its agenda is as given. -/
theorem live_next (e : Event) (rest : List Event) : Next (liveFor (e :: rest)) e rest :=
  ⟨⟨by show configLegal Config.tc = true; decide, rfl⟩, rfl⟩

/-- The same with the reset input asserted. -/
theorem held_coming (e : Event) (rest : List Event) :
    Coming { liveFor (e :: rest) with resetHeld := true } e rest ∧
    ({ liveFor (e :: rest) with resetHeld := true } : State).resetHeld = true :=
  ⟨⟨by show configLegal Config.tc = true; decide, rfl⟩, rfl⟩

/-- `live` with CTRL[0] tracking a velocity above zero. -/
def moving : State := { liveFor [] with ctrl := (withCtrl 0 0x3F800000 .vel).ctrl }

theorem moving_inv : moving.Inv where
  cfg_legal := (live_inv []).cfg_legal
  rb_length := (live_inv []).rb_length
  rb_wf := (live_inv []).rb_wf
  stageB_length := (live_inv []).stageB_length
  stageA_length := (live_inv []).stageA_length
  filt_length := (live_inv []).filt_length
  filt_wf := (live_inv []).filt_wf
  ctrl_length := rfl
  ctrl_filter_valid := by
    show ∀ c, c < 2 → (moving.controller c).valid = true → (moving.filter c).valid = true; decide
  qdLeft_wf := (live_inv []).qdLeft_wf
  qdRight_wf := (live_inv []).qdRight_wf
  time_fine_lt := (live_inv []).time_fine_lt
  flags_length := (live_inv []).flags_length
  flags_fine_lt := (live_inv []).flags_fine_lt
  status_wf := (live_inv []).status_wf

/-! ### Witnesses for the hypotheses of the statements, one for each, named after it -/

theorem witness_ResetMeetsTheInvariant :
    configLegal ⟨8, 15, 15, 15, 15, 65535, 0xFFFFFFFF, true, 0xFFFFFF00⟩ = true := by decide

theorem witness_NopChangesNothingAndResetChangesAll :
    still.resetHeld = false ∧ ({ still with resetHeld := true } : State).resetHeld = true := ⟨rfl, rfl⟩

theorem witness_DecodeOfEncodeIsTheCommand :
    (Instr.flagArm 255 0xFF 0).wellFormed = true ∧ (Instr.filtRead 0 255 255).wellFormed = true := by decide

theorem witness_EncodeOfDecodeIsTheWord : decode 0x26FFFFFF = .ok (.filtRead 255 255 255) := by decide

theorem witness_IllegalOpcodesFault :
    [0x02, 0x0F, 0x18, 0x1F, 0x27, 0x2F, 0x38, 0x3F, 0x47, 0x4F, 0x57, 0xFF].all
      (fun o => illegalOpcodes.contains o) = true ∧ (opcOf 0xFF000000).toNat ∈ illegalOpcodes ∧
    [0x00, 0x01, 0x10, 0x17, 0x20, 0x26, 0x30, 0x37, 0x40, 0x46, 0x50, 0x56].all
      (fun o => !illegalOpcodes.contains o) = true := by decide

theorem witness_ReservedBitsMustBeZero :
    decode 0x46000004 = .error .reservedField ∧ decode 0x46000003 = .ok (.qdInject 0 true true) := by decide

theorem witness_StepRunsTheDecodedCommand :
    Next (liveFor [.write 0 4 0x22000000]) (.write 0 4 0x22000000) [] ∧ decode 0x22000000 = .ok (.filtValue 0) ∧
    Next (liveFor [.write 0 4 0x02000000]) (.write 0 4 0x02000000) [] ∧
    decode 0x02000000 = .error .illegalOpcode := ⟨live_next _ _, by decide, live_next _ _, by decide⟩

theorem witness_ReadsReturnTheRegister :
    Next (liveFor [.read 0x1C 4]) (.read (Config.tc.base + 0x1C) 4) [] := live_next _ _

theorem witness_MalformedAccessesFault :
    Next (liveFor [.read 0x20 4]) (.read (Config.tc.base + 0x20) 4) [] ∧
    Next (liveFor [.read 0xFF 1]) (.read (Config.tc.base + 0xFF) 1) [] ∧
    Next (liveFor [.write 0x01 4 5]) (.write (Config.tc.base + 0x01) 4 5) [] ∧
    Next (liveFor [.write 0x00 2 5]) (.write (Config.tc.base + 0x00) 2 5) [] ∧
    Next (liveFor [.write 0x1C 4 5]) (.write (Config.tc.base + 0x1C) 4 5) [] :=
  ⟨live_next _ _, live_next _ _, live_next _ _, live_next _ _, live_next _ _⟩

theorem witness_OperandWritesStore :
    Next (liveFor [.write 4 4 5]) (.write (Config.tc.base + 4) 4 5) [] ∧
    Next (liveFor [.write 8 4 5]) (.write (Config.tc.base + 8) 4 5) [] := ⟨live_next _ _, live_next _ _⟩

theorem witness_StatusWriteClearsTheRecord :
    Next (liveFor [.write 0x14 4 1]) (.write (Config.tc.base + 0x14) 4 1) [] ∧
    Next (liveFor [.write 0x14 4 0xFFFFFFFE]) (.write (Config.tc.base + 0x14) 4 0xFFFFFFFE) [] ∧
    (1 : Word).getLsbD 0 = true ∧ (0xFFFFFFFE : Word).getLsbD 0 = false :=
  ⟨live_next _ _, live_next _ _, by decide, by decide⟩

theorem witness_ParamWordsReportTheConfiguration :
    configLegal Config.tc = true ∧
    configLegal ⟨8, 15, 15, 15, 15, 65535, 0xFFFFFFFF, true, 0xFFFFFF00⟩ = true ∧
    configLegal ⟨2, 1, 1, 1, 1, 1, 0, false, 0⟩ = true := by decide

theorem witness_WindowBytesAreLittleEndian : regAt 0x00 4 = some .cmd ∧ regAt 0x1C 4 = some .param1 := by decide

theorem witness_EnvironmentConventions :
    configLegal (liveFor []).cfg = true ∧ (liveFor []).agenda = [] ∧
    Next (liveFor [.read 256 4]) (.read 256 4) [] ∧ Next (liveFor [.write 256 4 1]) (.write 256 4 1) [] ∧
    Next { liveFor [.read 255 4] with cfg := { Config.tc with base := 256 } } (.read 255 4) [] :=
  ⟨by decide, rfl, live_next _ _, live_next _ _, ⟨by decide, rfl⟩, rfl⟩

/-- The clauses of EnvironmentConventions for a block in reset. -/
theorem witness_EnvironmentConventions_in_reset :
    ∀ e ∈ [.read 4 4, .write 0 4 0, .sample .left true false, .tick],
      Coming { liveFor [e] with resetHeld := true } e [] ∧
      ({ liveFor [e] with resetHeld := true } : State).resetHeld = true := fun e _ => held_coming e []

theorem witness_IllegalConfigurationsAreRefused :
    configLegal { Config.tc with numCtrl := 4 } = false ∧ configLegal { Config.tc with base := 128 } = false := by decide

theorem witness_FaultRecordKeepsTheFirst : statusErr 0 = false ∧ statusErr 0x15000601 = true := by decide

theorem witness_FirstFailingCheckDecides :
    firstFailing (checks live (.filtRead 0 2 3)) = some .badIndex ∧
    firstFailing (checks live (.filtRead 0 1 3)) = none ∧
    firstFailing (checks live (.filtRead 3 0 5)) = some .badInstance ∧
    firstFailing (checks live (.filtRead 1 9 3)) = some .notInit := by decide

/-- The clause of FirstFailingCheckDecides about an unfaulted run: one NOP, from a state with no fault on record. -/
theorem witness_FirstFailingCheckDecides_run :
    ¬ FaultedRun 1 (liveFor [commandEvent Config.tc 0]) ∧
    run 0 (liveFor [commandEvent Config.tc 0]) = .next (liveFor [commandEvent Config.tc 0]) ∧
    Next (liveFor [commandEvent Config.tc 0]) (commandEvent Config.tc 0) [] := by
  refine ⟨?_, rfl, live_next _ _⟩
  rw [faultedRun_succ]
  rintro (h | ⟨u, hu, hf⟩)
  · exact absurd h (by decide)
  · have : step (liveFor [commandEvent Config.tc 0]) = .next (liveFor []) := rfl
    rw [this] at hu
    cases hu
    exact absurd (faultedRun_zero.1 hf) (by decide)

/-- A fault that was cleared still makes the run a faulted run: an illegal word, then a write of 1 to STATUS. -/
theorem test_faultedRun_after_clear :
    FaultedRun 2 (liveFor [commandEvent Config.tc 0xFF000000, .write 0x14 4 1]) ∧
    ∃ t, run 2 (liveFor [commandEvent Config.tc 0xFF000000, .write 0x14 4 1]) = .next t ∧ t.faulted = false :=
  ⟨⟨1, _, by decide, rfl, by decide⟩, _, rfl, by decide⟩

theorem witness_OnlyListedCommandsWriteResults :
    ∃ t, exec (.rbPushBack 0) live = .next t ∧ (Instr.rbPushBack 0) ≠ .softReset ∧
      (Instr.rbPushBack 0).opcode.toNat ∉ [0x13, 0x33, 0x42, 0x50] := ⟨_, rfl, by decide, by decide⟩

theorem witness_CommandsKeepOperandsAndTime : ∃ t, exec (.flagDone 0) live = .next t := ⟨_, rfl⟩

theorem witness_UnitsKeepToThemselves :
    ∃ t, exec .timeRead live = .next t ∧ Instr.timeRead ≠ .softReset ∧ ¬ ofUnit .timeRead 1 ∧ ¬ ofUnit .timeRead 2 ∧
      ¬ ofUnit .timeRead 3 ∧ ¬ ofUnit .timeRead 4 :=
  ⟨_, rfl, by decide, by decide, by decide, by decide, by decide⟩

theorem witness_CoefficientsAreImmutable :
    ∃ t, (liveFor []).Inv ∧ 0 < (liveFor []).cfg.numFilt ∧ exec (.filtShiftby 0) (liveFor []) = .next t ∧
      Instr.filtShiftby 0 ≠ .softReset := ⟨_, live_inv _, by decide, rfl, by decide⟩

theorem witness_StepKeepsTheInvariant :
    ∃ t, (liveFor [commandEvent Config.tc 0x33000000]).Inv ∧
      step (liveFor [commandEvent Config.tc 0x33000000]) = .next t := ⟨_, live_inv _, rfl⟩

/-- A ring of eight zero slots with these indices. -/
def ringAt (start stop : Nat) : Ring := ⟨List.replicate 8 0, start, stop⟩

theorem witness_PushBackAppendsAndEvictsTheOldest :
    2 ≤ 8 ∧ (ringOf [1, 2, 3, 4, 5, 6, 7]).Wf 8 ∧ (ringOf [1, 2, 3, 4, 5, 6, 7]).length 8 = 8 - 1 ∧
    (ringOf [1, 2, 3]).Wf 8 ∧ (ringOf [1, 2, 3]).length 8 < 8 - 1 ∧ (ringAt 5 5).Wf 8 ∧ (ringAt 5 5).length 8 = 0 := by
  decide

theorem witness_PushFrontPrependsAndDropsTheBack : 2 ≤ 8 ∧ (ringAt 0 7).Wf 8 := by decide

theorem witness_PopsReturnTheEndElement :
    0 < 8 ∧ (Ring.fresh 8).Wf 8 ∧ (Ring.fresh 8).live 8 = [] ∧ (ringOf [1, 2, 3]).Wf 8 ∧
    (ringOf [1, 2, 3]).live 8 = [1, 2] ++ [3] ∧ (ringOf [1, 2, 3]).live 8 = 1 :: [2, 3] := by decide

theorem witness_SetThenGetReadsBack : (ringOf [1, 2, 3]).Wf 8 ∧ 7 < 8 ∧ 0 < 8 := by decide

theorem witness_PushOrderIsKept :
    2 ≤ 8 ∧ (ringAt 5 5).Wf 8 ∧ (ringAt 5 5).length 8 = 0 ∧
    ([1, 2, 3, 4, 5, 6, 7] : List Word).length ≤ 8 - 1 := by decide

theorem witness_RingCommandsRefineABoundedDeque :
    (liveFor []).Inv ∧ 1 < (liveFor []).cfg.numRb ∧ 6 < (((liveFor []).ring 1).live 8).length :=
  ⟨live_inv _, by decide, by decide⟩

theorem witness_IndexedRingCommandsReachStaleSlots : 1 < live.cfg.numRb ∧ 7 < live.cfg.cap := by decide

theorem witness_ShiftDropsTheOldestSample :
    (ringOf [1]).Wf 8 ∧ 1 ≤ (ringOf [1]).length 8 ∧ (ringOf [1]).length 8 ≤ 8 - 2 ∧
    (ringOf [1, 2, 3, 4, 5, 6]).Wf 8 ∧ (ringOf [1, 2, 3, 4, 5, 6]).length 8 ≤ 8 - 2 := by decide

theorem witness_CoefWrStagesOneCoefficient : 5 ≤ live.cfg.maxOrder ∧ 0 ≤ live.cfg.maxOrder := by decide

theorem witness_FiltInitCopiesTheStagingBank :
    (liveFor []).Inv ∧ 2 < (liveFor []).cfg.numFilt ∧ 5 ≤ (liveFor []).cfg.maxOrder ∧
    isZero ((liveFor []).stagedA 0) = false := ⟨live_inv _, by decide, by decide, by decide⟩

/-- The hypotheses of FiltValueIsTheDifferenceEquation, FilterReads, FiltSettoFillsBothHistories and
FiltShiftbyAddsToBothHistories. -/
theorem witness_FiltValueIsTheDifferenceEquation :
    (liveFor []).Inv ∧ 0 < (liveFor []).cfg.numFilt ∧ ((liveFor []).filter 0).valid = true :=
  ⟨live_inv _, by decide, by decide⟩

theorem witness_FilterReads :
    (liveFor []).Inv ∧ 0 < (liveFor []).cfg.numFilt ∧ ((liveFor []).filter 0).valid = true ∧
    1 ≤ ((liveFor []).filter 0).order := ⟨live_inv _, by decide, by decide, by decide⟩

theorem witness_FiltSettoFillsBothHistories :
    (liveFor []).Inv ∧ 0 < (liveFor []).cfg.numFilt ∧ ((liveFor []).filter 0).valid = true :=
  ⟨live_inv _, by decide, by decide⟩

theorem witness_FiltShiftbyAddsToBothHistories :
    (liveFor []).Inv ∧ 0 < (liveFor []).cfg.numFilt ∧ ((liveFor []).filter 0).valid = true :=
  ⟨live_inv _, by decide, by decide⟩

theorem witness_CtrlInitMakesControllerAndFilter :
    (liveFor []).Inv ∧ 1 < (liveFor []).cfg.numCtrl ∧ 5 ≤ (liveFor []).cfg.maxOrder ∧
    isZero ((liveFor []).stagedA 0) = false := ⟨live_inv _, by decide, by decide, by decide⟩

theorem witness_SetTargets : 0 < live.cfg.numCtrl ∧ (live.controller 0).valid = true := by decide

/-- The two clauses of the target: a velocity above zero, and none. -/
theorem witness_CtrlUpdateIsProportionalOnTheFilteredMeasurement :
    (liveFor []).Inv ∧ 0 < (liveFor []).cfg.numCtrl ∧ ((liveFor []).controller 0).valid = true ∧
    ((liveFor []).controller 0).sel = .sign ∧ fgt ((liveFor []).controller 0).targetVel 0 = false ∧
    moving.Inv ∧ 0 < moving.cfg.numCtrl ∧ (moving.controller 0).valid = true ∧ (moving.controller 0).sel = .sign ∧
    fgt (moving.controller 0).targetVel 0 = true :=
  ⟨live_inv _, by decide, by decide, by decide, by decide, moving_inv, by decide, by decide, by decide,
    by decide⟩

theorem witness_CtrlDelegatesToItsFilter :
    (liveFor []).Inv ∧ 0 < (liveFor []).cfg.numCtrl ∧ ((liveFor []).controller 0).valid = true :=
  ⟨live_inv _, by decide, by decide⟩

theorem witness_CtrlReadReadsEachField : 1 < live.cfg.numCtrl := by decide

/-- The run is two updates with a tick between them, and none of the accesses reads TVEL or CFG. -/
theorem witness_NonPositiveVelocityKeepsPositionMode :
    let s := liveFor [commandEvent Config.tc 0x33000000, .tick, commandEvent Config.tc 0x33000000]
    ∃ u t, s.Inv ∧ 0 < s.cfg.numCtrl ∧ (s.controller 0).valid = true ∧
      (s.controller 0).sel = .sign ∧ fgt (s.controller 0).targetVel 0 = false ∧
      fgt s.arg0 0 = false ∧ exec (.ctrlSetVel 0) s = .next u ∧
      commandEvent s.cfg (encode (.ctrlRead 0 3)) ∉ s.agenda ∧
      commandEvent s.cfg (encode (.ctrlRead 0 4)) ∉ s.agenda ∧ run 3 s = .next t :=
  ⟨_, _, live_inv _, by decide, by decide, by decide, by decide, by decide, rfl, by decide, by decide, rfl⟩

theorem witness_SampleCountsByTheGrayCodeTable :
    Quad.Wf ⟨false, false, false, 0x7FFFFFFF, 0⟩ ∧ Quad.Wf ⟨true, true, false, 0x80000000, 0⟩ ∧
    Quad.Wf ⟨true, false, true, 0, 0⟩ ∧ Quad.Wf ⟨false, true, true, 0, 0⟩ := by decide

theorem witness_FullCycleCountsFour :
    let fwd : List Event := [.sample .left true false, .sample .left false true, .sample .left true true,
      .sample .left false false]
    let rev : List Event := [.sample .right true true, .sample .right false true, .sample .right true false,
      .sample .right false false]
    configLegal (liveFor fwd).cfg = true ∧ (liveFor fwd).resetHeld = false ∧
    ((liveFor fwd).quad .left).aLast = false ∧ ((liveFor fwd).quad .left).bLast = false ∧
    ((liveFor fwd).quad .left).xLast = false ∧ (liveFor fwd).agenda = fwd ++ [] ∧
    configLegal (liveFor rev).cfg = true ∧ (liveFor rev).resetHeld = false ∧
    ((liveFor rev).quad .right).aLast = false ∧ ((liveFor rev).quad .right).bLast = false ∧
    ((liveFor rev).quad .right).xLast = false ∧ (liveFor rev).agenda = rev ++ [] :=
  ⟨by decide, rfl, rfl, rfl, rfl, rfl, by decide, rfl, rfl, rfl, rfl, rfl⟩

theorem witness_InjectIsASampleEvent :
    sideOf 1 = some .right ∧ Next (liveFor [.sample .right true false]) (.sample .right true false) [] :=
  ⟨rfl, live_next _ _⟩

theorem witness_TicksAddUp :
    configLegal (liveFor [.tick, .tick]).cfg = true ∧ (liveFor [.tick, .tick]).resetHeld = false ∧
    (liveFor [.tick, .tick]).time.fine.toNat < (liveFor [.tick, .tick]).cfg.ticksPerMs ∧
    (liveFor [.tick, .tick]).agenda = List.replicate 2 .tick ++ [] := ⟨by decide, rfl, by decide, rfl⟩

theorem witness_TickAdvancesTheTimePoint :
    Next (liveFor [.tick]) .tick [] ∧ (liveFor [.tick]).time.fine.toNat + 1 ≠ (liveFor [.tick]).cfg.ticksPerMs ∧
    Next { liveFor [.tick] with time := ⟨0, 249⟩ } .tick [] ∧
    ((249 : Half).toNat + 1 = Config.tc.ticksPerMs) :=
  ⟨live_next _ _, by decide, ⟨⟨by decide, rfl⟩, rfl⟩, by decide⟩

theorem witness_FlagPredicateIsExact : 0 < 1 ∧ Finite 0x3D4CCCCD ∧ ¬ Finite 0xFF800000 := by decide

/-- Three ticks before the poll, 252 ticks having elapsed before them. -/
theorem witness_PollAfterTicksFiresWhenDue :
    let s := liveFor (List.replicate 3 .tick ++ [commandEvent Config.tc (encode (.flagPoll 0))])
    s.Inv ∧ s.resetHeld = false ∧ 0 < s.cfg.numFlag ∧ (s.flag 0).active = true ∧ Finite (s.flag 0).duration ∧ 0 ≤ elapsed s 0 ∧
    elapsed s 0 + (3 : Nat) ≤ (2 ^ 32 - 1) * (s.cfg.ticksPerMs : Int) ∧
    s.agenda = List.replicate 3 .tick ++ commandEvent s.cfg (encode (.flagPoll 0)) :: [] :=
  ⟨live_inv _, rfl, by decide, by decide, by decide, by decide, by decide, rfl⟩

theorem witness_TimeAndFlagReads : 6 < live.cfg.numFlag := by decide

theorem witness_FlagCommandsSetTheirFields :
    0 < live.cfg.numFlag ∧ fgt (live.flag 0).duration 0 = true ∧ fgt (live.flag 6).duration 0 = false := by
  decide

theorem witness_OneShotFiresOnce :
    (liveFor []).Inv ∧ 0 < (liveFor []).cfg.numFlag ∧ (liveFor []).arg0 = 0xBF800000 ∧ 0 ≤ elapsed (liveFor []) 0 :=
  ⟨live_inv _, by decide, rfl, by decide⟩

theorem witness_IdleFlagStaysIdle :
    ∃ t u, (liveFor [.write 4 4 0]).Inv ∧ 6 < (liveFor [.write 4 4 0]).cfg.numFlag ∧
      ((liveFor [.write 4 4 0]).flag 6).active = false ∧ exec (.flagDone 6) (liveFor [.write 4 4 0]) = .next t ∧
      (∀ subcmd cmd rest, (liveFor [.write 4 4 0]).agenda ≠
        commandEvent Config.tc (encode (.flagArm 6 subcmd cmd)) :: rest) ∧
      step (liveFor [.write 4 4 0]) = .next u := by
  refine ⟨_, _, live_inv _, by decide, by decide, rfl, ?_, rfl⟩
  intro subcmd cmd rest h
  have h : Event.write 4 4 0 = commandEvent Config.tc (encode (.flagArm 6 subcmd cmd)) := (List.cons.inj h).1
  simp [commandEvent, Config.tc] at h

theorem witness_AdditionIsCorrectlyRounded :
    Finite 0x7F7FFFFF ∧ Finite 0x80000001 ∧ Finite 0x00000000 := by decide

theorem witness_ProductQuotientAndConversionAreCorrectlyRounded :
    Finite 0x7F7FFFFF ∧ Finite 0x00000001 ∧ valQ 0x00000001 ≠ 0 ∧ -(2 ^ 31) ≤ (-(2 ^ 31) : Int) := by
  refine ⟨by decide, by decide, ?_, by decide⟩
  have he : expField 0x00000001#32 = 0 := by decide
  have hf : fracField 0x00000001#32 = 1 := by decide
  have hs : (0x00000001#32).getLsbD 31 = false := by decide
  show valQ 0x00000001#32 ≠ 0
  rw [valQ, he, hf, hs]
  norm_num

theorem witness_SpecialValues :
    isNaN 0x7FC00000 = true ∧ Finite 0x00000001 ∧ isZero 0x00000001 = false ∧ isZero 0x7F7FFFFF = false ∧
    Finite 0x80000000 ∧ Finite 0x3F800000 ∧ valQ 0x80000000 = 0 ∧ valQ 0x3F800000 ≠ 0 ∧
    valQ 0x3F800000 + valQ 0xBF800000 = 0 := by
  have z : valQ 0x80000000#32 = 0 := by
    rw [valQ, show expField 0x80000000#32 = 0 by decide, show fracField 0x80000000#32 = 0 by decide]; norm_num
  have p : valQ 0x3F800000#32 = 1 := by
    rw [valQ, show expField 0x3F800000#32 = 127 by decide, show fracField 0x3F800000#32 = 0 by decide,
      show (0x3F800000#32).getLsbD 31 = false by decide]; norm_num
  have m : valQ 0xBF800000#32 = -1 := by
    rw [valQ, show expField 0xBF800000#32 = 127 by decide, show fracField 0xBF800000#32 = 0 by decide,
      show (0xBF800000#32).getLsbD 31 = true by decide]; norm_num
  refine ⟨by decide, by decide, by decide, by decide, by decide, by decide, z, ?_, ?_⟩
  · show valQ 0x3F800000#32 ≠ 0
    rw [p]; norm_num
  · show valQ 0x3F800000#32 + valQ 0xBF800000#32 = 0
    rw [p, m]; norm_num

theorem witness_ComparisonsFollowTheValues :
    Finite 0x7F7FFFFF ∧ Finite 0x80000000 ∧ isNaN 0xFF800001 = true := by decide

end Sys2Proof.Tests
end

section
/-! SUPPORT. What each command decides (R333, R334), and what it makes of a step and of a run. -/

namespace Sys2Proof.Machine

open Sys2Proof.Claims

variable {s t : State}

/-! ### The checks of a command decide its outcome -/

/-- The outcome `o` of a command on `s` is the one its checks decide: the first that fails faults, and with none the
command completes with STATUS as it was (R333, R334, R335). -/
def Decides (l : List (Bool × ErrCode)) (opc : Byte) (s : State) (o : Out) : Prop :=
  (∀ code, firstFailing l = some code → o = .next (s.raise code opc)) ∧
  (firstFailing l = none → ∃ t, o = .next t ∧ t.status = s.status)

@[simp] theorem firstFailing_nil : firstFailing [] = none := rfl

@[simp] theorem firstFailing_true (code : ErrCode) (l : List (Bool × ErrCode)) :
    firstFailing ((true, code) :: l) = some code := rfl

@[simp] theorem firstFailing_false (code : ErrCode) (l : List (Bool × ErrCode)) :
    firstFailing ((false, code) :: l) = firstFailing l := rfl

/-- A command with no check left completes. -/
theorem Decides.done {opc : Byte} (h : t.status = s.status) : Decides [] opc s (.next t) :=
  ⟨by simp, fun _ => ⟨t, rfl, h⟩⟩

/-- A check that fails decides, whatever comes after it. -/
theorem Decides.fails {b : Bool} (code : ErrCode) (l : List (Bool × ErrCode)) (opc : Byte) (hb : b = true) :
    Decides ((b, code) :: l) opc s (.next (s.raise code opc)) := by
  subst hb
  refine ⟨fun c h => ?_, fun h => by simp at h⟩
  obtain rfl : code = c := by simpa using h
  rfl

/-- A check that passes leaves the decision to the later ones. -/
theorem Decides.passes {b : Bool} {code : ErrCode} {l : List (Bool × ErrCode)} {opc : Byte} {o : Out}
    (hb : b = false) (h : Decides l opc s o) : Decides ((b, code) :: l) opc s o := by
  subst hb; exact h

variable {l : List (Bool × ErrCode)} {opc : Byte} {n : Nat} {k : Out} {p : Prop} [Decidable p] {b : Bool} {code : ErrCode}

/-- A check written as a test that the command must not meet. -/
theorem Decides.failIf (hb : b = true ↔ p) (h : ¬ p → Decides l opc s k) :
    Decides ((b, code) :: l) opc s (if p then fail code opc s else k) := by
  by_cases hp : p
  · rw [if_pos hp]; exact .fails code l opc (hb.2 hp)
  · rw [if_neg hp]; exact .passes (Bool.eq_false_iff.2 (hp ∘ hb.1)) (h hp)

/-- A check written as a test that the command must meet. -/
theorem Decides.failUnless (hb : b = true ↔ ¬ p) (h : p → Decides l opc s k) :
    Decides ((b, code) :: l) opc s (if p then k else fail code opc s) := by
  rw [← ite_not]
  exact .failIf hb fun hp => h (not_not.1 hp)

theorem onRing_decides (h : Decides l opc s k) :
    Decides ((decide (s.cfg.numRb ≤ n), .badInstance) :: l) opc s (onRing opc n s k) :=
  .failUnless (by simp) fun _ => h

theorem onFilter_decides (h : Decides l opc s k) :
    Decides ((decide (s.cfg.numFilt ≤ n), .badInstance) :: l) opc s (onFilter opc n s k) :=
  .failUnless (by simp) fun _ => h

theorem onController_decides (h : Decides l opc s k) :
    Decides ((decide (s.cfg.numCtrl ≤ n), .badInstance) :: l) opc s (onController opc n s k) :=
  .failUnless (by simp) fun _ => h

theorem onFlag_decides (h : Decides l opc s k) :
    Decides ((decide (s.cfg.numFlag ≤ n), .badInstance) :: l) opc s (onFlag opc n s k) :=
  .failUnless (by simp) fun _ => h

theorem lt_two_of_sideOf {sd : Side} (h : sideOf n = some sd) : n < 2 := by
  match n, h with
  | 0, _ => decide
  | 1, _ => decide

theorem onSide_decides {k : Side → Out} (h : ∀ sd, Decides l opc s (k sd)) :
    Decides ((decide (2 ≤ n), .badInstance) :: l) opc s (onSide opc n s k) := by
  obtain ⟨sd, hn, e⟩ | ⟨hn, e⟩ := onSide_cases opc n s k <;> rw [e]
  · exact .passes (by simpa using lt_two_of_sideOf hn) (h sd)
  · exact .fails _ _ _ (by simpa using hn)

theorem onValidFilter_decides (h : t.status = s.status) :
    Decides [(decide (s.cfg.numFilt ≤ n), .badInstance), (!(s.filter n).valid, .notInit)] opc s
      (onValidFilter opc n s (.next t)) :=
  onFilter_decides (.failUnless (by simp) fun _ => .done h)

theorem onValidController_decides (h : t.status = s.status) :
    Decides [(decide (s.cfg.numCtrl ≤ n), .badInstance), (!(s.controller n).valid, .notInit)] opc s
      (onValidController opc n s (.next t)) :=
  onController_decides (.failUnless (by simp) fun _ => .done h)

theorem ifInitable_decides (h : t.status = s.status) :
    Decides [(decide (s.cfg.maxOrder < n), .badOrder), (isZero (s.stagedA 0), .zeroA0)] opc s
      (ifInitable opc n s (.next t)) :=
  .failIf (by simp) fun _ => .failIf Iff.rfl fun _ => .done h

/-- FILT_READ: BAD_INSTANCE, BAD_SELECT, and, as the selector asks for them, NOT_INIT and BAD_INDEX (R186). -/
theorem execFiltRead_decides (f i sel : Nat) (s : State) :
    Decides (checks s (.filtRead f i sel)) 0x26 s (execFiltRead f i sel s) := by
  refine onFilter_decides (.failIf (by simp) fun hsel => ?_)
  by_cases h4 : sel = 4
  · rw [if_pos h4]
    exact .passes (by simp [h4]) (.failUnless (by simp [h4]) fun _ => .done rfl)
  · have h3 : sel ≤ 3 := by omega
    rw [if_neg h4]
    exact .failIf (by simp [h3]) fun _ => .failIf (by simp [h3, h4]) fun _ => .done rfl

/-- CTRL_READ: BAD_INSTANCE, then BAD_SELECT (R267). -/
theorem execCtrlRead_decides (c sel : Nat) (s : State) :
    Decides (checks s (.ctrlRead c sel)) 0x37 s (execCtrlRead c sel s) := by
  refine onController_decides ?_
  match sel with
  | 0 | 1 | 2 | 3 | 4 => exact .passes rfl (.done rfl)
  | n + 5 => exact .fails _ _ _ (by simp)

/-- FLAG_READ: BAD_INSTANCE, then BAD_SELECT (R305). -/
theorem execFlagRead_decides (g sel : Nat) (s : State) :
    Decides (checks s (.flagRead g sel)) 0x55 s (execFlagRead g sel s) := by
  refine onFlag_decides ?_
  match sel with
  | 0 | 1 | 2 | 3 | 4 => exact .passes rfl (.done rfl)
  | n + 5 => exact .fails _ _ _ (by simp)

/-- The checks of R334 decide every command but SOFT_RESET, which has none and clears STATUS. -/
theorem exec_decides (i : Instr) (hi : i ≠ .softReset) (s : State) :
    Decides (checks s i) i.opcode s (exec i s) := by
  cases i with
  | nop | timeRead | qdReadBoth => exact .done rfl
  | softReset => exact absurd rfl hi
  | rbInit | rbPushBack | rbPushFront | rbPopBack | rbPopFront | rbLength => exact onRing_decides (.done rfl)
  | rbGet | rbSet => exact onRing_decides (.failUnless (by simp) fun _ => .done rfl)
  | coefWr bank i => exact .failIf (by simp) fun _ => .done (s.stage_status bank i s.arg0)
  | filtInit => exact onFilter_decides (ifInitable_decides rfl)
  | filtValue | filtLast | filtSetto | filtShiftby => exact onValidFilter_decides rfl
  | filtRead f i sel => exact execFiltRead_decides f i sel s
  | ctrlInit => exact onController_decides (ifInitable_decides rfl)
  | ctrlSetPos | ctrlSetVel | ctrlUpdate | ctrlLast | ctrlSetto | ctrlShiftby => exact onValidController_decides rfl
  | ctrlRead c sel => exact execCtrlRead_decides c sel s
  | qdInit => exact onSide_decides fun sd => .done (s.initSide_status sd)
  | qdRead | qdState => exact onSide_decides fun _ => .done (s.setRes0_status _)
  | qdAngle => exact onSide_decides fun _ => .done ((State.spend_status _ 1).trans (s.setRes0_status _))
  | qdSetScale => exact onSide_decides fun sd => .done (s.setQuad_status sd _)
  | qdInject n x b => exact onSide_decides fun sd => .done (s.sampleSide_status sd x b)
  | flagArm | flagCancel | flagPoll | flagDone | flagDefault => exact onFlag_decides (.done rfl)
  | flagRead g sel => exact execFlagRead_decides g sel s

/-- Every command goes on, in every state (R348). -/
theorem exec_goes_on (i : Instr) (s : State) : ∃ t, exec i s = .next t := by
  by_cases hi : i = .softReset
  · exact ⟨s.applyReset, hi ▸ rfl⟩
  · obtain ⟨hfault, hdone⟩ := exec_decides i hi s
    cases hc : firstFailing (checks s i) with
    | some code => exact ⟨_, hfault code hc⟩
    | none => obtain ⟨t, ht, -⟩ := hdone hc; exact ⟨t, ht⟩

/-- The checks look at the block and not at the model's list of coming events. -/
theorem checks_with_agenda (s : State) (l : List Event) (i : Instr) :
    checks { s with agenda := l } i = checks s i := by
  cases i <;> rfl

/-! ### Steps -/

/-- A word written to CMD goes on, command or not (R348). -/
theorem runWord_goes_on (w : Word) (s : State) : ∃ t, runWord w s = .next t := by
  obtain ⟨i, -, e⟩ | ⟨err, -, e⟩ := runWord_cases w s
  · exact e ▸ exec_goes_on i s
  · exact ⟨_, e⟩

/-- No event is refused: an access may stop by name, and everything else goes on. -/
theorem perform_ne_refused (e : Event) (s : State) (r : Refusal) : perform runWord e s ≠ .refused r := by
  cases e with
  | read addr size =>
    obtain ⟨-, ha⟩ | ⟨-, ha⟩ := acceptAccess_cases addr s (hostRead addr size s) <;> rw [perform, ha]
    · obtain ⟨_, -, -, h⟩ | ⟨-, -, h⟩ | ⟨-, h⟩ := hostRead_cases addr size s <;> simp [h]
    · simp
  | write addr size v =>
    obtain ⟨-, ha⟩ | ⟨-, ha⟩ := acceptAccess_cases addr s (hostWrite runWord addr size v s) <;> rw [perform, ha]
    · obtain ⟨u, hu⟩ := runWord_goes_on v s
      obtain h | h | h | h | h | h := hostWrite_cases runWord addr size v s <;> simp [h, hu]
    · simp
  | sample sd x b =>
    obtain ⟨-, h⟩ | ⟨-, h⟩ := agentStep_cases s (s.sampleSide sd x b) <;> simp [perform, h]
  | tick =>
    obtain ⟨-, h⟩ | ⟨-, h⟩ := agentStep_cases s { s with time := s.time.tick s.cfg.ticksPerMs } <;> simp [perform, h]
  | resetAssert | resetRelease => simp [perform]

/-- The step of a legal block whose next event is known is that event. -/
theorem step_coming {e : Event} {rest : List Event} (h : Coming s e rest) :
    step s = perform runWord e { s with agenda := rest } := by
  obtain ⟨hc, ha⟩ := h
  simp [step, hc, ha]

/-- A step is refused only for the configuration (R7, assumption 4). -/
theorem step_refused_iff : step s = .refused .illegalConfig ↔ configLegal s.cfg = false := by
  constructor
  · intro h
    by_contra hc
    rw [Bool.not_eq_false] at hc
    cases ha : s.agenda with
    | nil => simp [step, hc, ha] at h
    | cons e rest => exact perform_ne_refused e _ _ ((step_coming ⟨hc, ha⟩).symm.trans h)
  · intro hc
    simp [step, hc]

/-- The constraints of R7, one by one. -/
theorem configLegal_iff (c : Config) : configLegal c = true ↔
    2 ≤ c.rbLog2 ∧ c.rbLog2 ≤ 8 ∧ 1 ≤ c.numRb ∧ c.numRb ≤ 15 ∧ c.numCtrl ≤ c.numFilt ∧ c.numFilt ≤ 15 ∧
      1 ≤ c.numCtrl ∧ c.numCtrl ≤ 15 ∧ 1 ≤ c.numFlag ∧ c.numFlag ≤ 15 ∧ 1 ≤ c.ticksPerMs ∧ c.ticksPerMs ≤ 65535 ∧
      c.base % 256 = 0 := by
  simp only [configLegal, Bool.and_eq_true, decide_eq_true_eq, and_assoc]

theorem inWindow_base_add {c : Config} {off : Nat} (h : off < 256) : inWindow c (c.base + off) = true := by
  simp [inWindow, h]

/-- A well-formed read of a register by a block that is not in reset reads the register out (R75). -/
theorem step_read {rest : List Event} {off : Nat} {reg : Reg} (hoff : off < 256) (hreg : regAt off 4 = some reg)
    (h : Next s (.read (s.cfg.base + off) 4) rest) :
    step s = .next ({ s with agenda := rest }.readOut reg) := by
  obtain ⟨hcoming, hreset⟩ := h
  rw [step_coming hcoming, perform_released runWord _ (by exact hreset)]
  simp [hostRead, inWindow_base_add hoff, hreg]

/-- A word written to CMD of a block that is not in reset is run (R76). -/
theorem step_command {rest : List Event} {w : Word} (h : Next s (commandEvent s.cfg w) rest) :
    step s = runWord w { s with agenda := rest } := by
  obtain ⟨hcoming, hreset⟩ := h
  have hwin : inWindow s.cfg s.cfg.base = true := inWindow_base_add (c := s.cfg) (off := 0) (by decide)
  rw [step_coming hcoming, perform_released runWord _ (by exact hreset)]
  simp [commandEvent, hostWrite, hwin, regAt]

/-! ### A fault in a run -/

/-- A fault leaves STATUS.ERR set (R331). -/
theorem statusErr_recordFault (code info : Byte) (w : Word) : statusErr (recordFault code info w) = true := by
  unfold recordFault
  split
  · next h => simp [statusErr] at h ⊢; simp [h]
  · rw [statusErr, statusWord, BitVec.getLsbD_append]; rfl

theorem faulted_raise (code : ErrCode) (info : Byte) (s : State) : (s.raise code info).faulted = true :=
  statusErr_recordFault code.byte info s.status

/-- A run extended by one step at its end. -/
theorem run_step {j : Nat} {u : State} (hrun : run j s = .next t) (hstep : step t = .next u) :
    run (j + 1) s = .next u := by
  induction j generalizing s with
  | zero =>
    obtain rfl := (run_zero s t).1 hrun
    exact (run_succ 0 s u).2 ⟨u, hstep, rfl⟩
  | succ j ih =>
    obtain ⟨v, hv, hrest⟩ := (run_succ j s t).1 hrun
    exact (run_succ (j + 1) s u).2 ⟨v, hv, ih hrest⟩

/-- A run in which a step raises a fault is a faulted run (R17, R349). -/
theorem faultedRun_of_step_raise {j k : Nat} {u : State} {code : ErrCode} {info : Byte} (hj : j < k)
    (hrun : run j s = .next t) (hstep : step t = .next (u.raise code info)) : FaultedRun k s :=
  ⟨j + 1, _, hj, run_step hrun hstep, faulted_raise code info u⟩

end Sys2Proof.Machine
end

section
/-! SUPPORT. The statements about reads, refusals and the checks of a command. -/

namespace Sys2Proof.Proofs

open Sys2Proof Sys2Proof.Machine Sys2Proof.Claims

/-- Settles O7: each register's offset names it, and reading it out is the stated change. -/
theorem readsReturnTheRegister : Obligations.ReadsReturnTheRegister := by
  intro s rest off v hmem hnext
  simp only [List.mem_cons, Prod.mk.injEq, List.not_mem_nil, or_false] at hmem
  obtain ⟨rfl, rfl⟩ | ⟨rfl, rfl⟩ | ⟨rfl, rfl⟩ | ⟨rfl, rfl⟩ | ⟨rfl, rfl⟩ | ⟨rfl, rfl⟩ | ⟨rfl, rfl⟩ | ⟨rfl, rfl⟩ := hmem
  · exact step_read (reg := .cmd) (by decide) rfl hnext
  · exact step_read (reg := .arg0) (by decide) rfl hnext
  · exact step_read (reg := .arg1) (by decide) rfl hnext
  · exact step_read (reg := .res0) (by decide) rfl hnext
  · exact step_read (reg := .res1) (by decide) rfl hnext
  · exact step_read (reg := .status) (by decide) rfl hnext
  · exact step_read (reg := .param0) (by decide) rfl hnext
  · exact step_read (reg := .param1) (by decide) rfl hnext

/-- Settles O14: no event is refused, so the configuration decides. -/
theorem illegalConfigurationsAreRefused : Obligations.IllegalConfigurationsAreRefused := by
  intro s
  rw [step_refused_iff, ← Bool.not_eq_true, configLegal_iff]

/-- Settles O16: the checks decide each command, and a fault at any step of a run makes it a faulted run. -/
theorem firstFailingCheckDecides : Obligations.FirstFailingCheckDecides := by
  refine ⟨fun i s => ?_, fun s t j k w rest hclean hj hrun hnext => ?_⟩
  · by_cases hi : i = .softReset
    · subst hi
      exact ⟨fun code h => by simp [checks] at h, fun _ => ⟨_, rfl, fun h => absurd rfl h⟩⟩
    · obtain ⟨hfault, hdone⟩ := exec_decides i hi s
      refine ⟨hfault, fun h => ?_⟩
      obtain ⟨t, ht, hst⟩ := hdone h
      exact ⟨t, ht, fun _ => hst⟩
  · have hstep := step_command hnext
    obtain ⟨i, hdec, hrunWord⟩ | ⟨err, -, hrunWord⟩ := runWord_cases w { t with agenda := rest }
    · refine ⟨i, hdec, ?_⟩
      cases hc : firstFailing (checks t i) with
      | none => rfl
      | some code =>
        have hi : i ≠ .softReset := by rintro rfl; simp [checks] at hc
        have hraise := (exec_decides i hi { t with agenda := rest }).1 code (by rwa [checks_with_agenda])
        exact absurd (faultedRun_of_step_raise hj hrun (hstep.trans (hrunWord.trans hraise))) hclean
    · exact absurd (faultedRun_of_step_raise hj hrun (hstep.trans hrunWord)) hclean

end Sys2Proof.Proofs
end

section
/-! SUPPORT. Binary32 words as sign and magnitude, and their values as units (R10, R12). -/

namespace Sys2Proof.Machine

open Sys2Proof.Claims

/-! ### Fields of a word -/

theorem magBits_eq (w : Word) : magBits w = w.toNat % 2 ^ 31 := by
  simp [magBits]

theorem magBits_lt (w : Word) : magBits w < 2 ^ 31 := (w.extractLsb' 0 31).isLt

theorem signBit_eq (w : Word) : signBit w = decide (2 ^ 31 ≤ w.toNat) := by
  exact w.msb_eq_getLsbD_last.symm.trans w.msb_eq_decide

/-- The exponent is the upper part of the magnitude. -/
theorem expField_eq (w : Word) : expField w = magBits w / 2 ^ 23 := by
  rw [expField, magBits_eq, BitVec.extractLsb'_toNat, Nat.shiftRight_eq_div_pow]
  omega

/-- The fraction is the lower part of the magnitude. -/
theorem fracField_eq (w : Word) : fracField w = magBits w % 2 ^ 23 := by
  rw [fracField, magBits_eq, BitVec.extractLsb'_toNat, Nat.shiftRight_eq_div_pow]
  omega

theorem toNat_ofMag {m : Nat} (neg : Bool) (h : m < 2 ^ 31) : (ofMag neg m).toNat = m + if neg then 2 ^ 31 else 0 := by
  rw [ofMag, BitVec.toNat_ofNat]
  split <;> omega

theorem magBits_ofMag {m : Nat} (neg : Bool) (h : m < 2 ^ 31) : magBits (ofMag neg m) = m := by
  rw [magBits_eq, toNat_ofMag neg h]
  split <;> omega

theorem signBit_ofMag {m : Nat} (neg : Bool) (h : m < 2 ^ 31) : signBit (ofMag neg m) = neg := by
  rw [signBit_eq, toNat_ofMag neg h]
  cases neg
  · simpa using h
  · simp

/-- A word is its sign and magnitude. -/
theorem ofMag_signBit_magBits (w : Word) : ofMag (signBit w) (magBits w) = w := by
  apply BitVec.eq_of_toNat_eq
  rw [toNat_ofMag _ (magBits_lt w), signBit_eq, magBits_eq]
  simp only [decide_eq_true_eq]
  split <;> omega

/-! ### The classes of words -/

theorem infMag_lt : infMag < 2 ^ 31 := by decide

theorem finite_iff (w : Word) : Claims.Finite w ↔ magBits w < infMag := by
  have := magBits_lt w
  rw [Claims.Finite, expField_eq, infMag]
  omega

/-- A NaN pattern has the exponent 0xFF and a fraction that is not zero (R15). -/
theorem isNaN_iff (w : Word) : isNaN w = true ↔ expField w = 255 ∧ fracField w ≠ 0 := by
  have := magBits_lt w
  rw [isNaN, decide_eq_true_eq, expField_eq, fracField_eq, infMag]
  omega

theorem val_of_finite {w : Word} (h : Claims.Finite w) : val w = .fin (signBit w) (magUnits (magBits w)) :=
  if_pos ((finite_iff w).1 h)

theorem val_of_isNaN {w : Word} (h : isNaN w = true) : val w = .nan := by
  have h : infMag < magBits w := of_decide_eq_true h
  rw [val, if_neg h.le.not_gt, if_neg h.ne']

theorem isNaN_of_finite {w : Word} (h : Claims.Finite w) : isNaN w = false :=
  decide_eq_false ((finite_iff w).1 h).le.not_gt

theorem ofMag_infMag (neg : Bool) : ofMag neg infMag = infW neg := by cases neg <;> rfl

theorem ofMag_zero (neg : Bool) : ofMag neg 0 = zeroW neg := by cases neg <;> rfl

@[simp] theorem val_infW (neg : Bool) : val (infW neg) = .inf neg := by cases neg <;> rfl

@[simp] theorem isNaN_infW (neg : Bool) : isNaN (infW neg) = false := by cases neg <;> rfl

@[simp] theorem val_zeroW (neg : Bool) : val (zeroW neg) = .fin neg 0 := by cases neg <;> rfl

/-- ISZERO is true of the two zeros only (R13). -/
theorem isZero_iff (w : Word) : isZero w = true ↔ w = 0x00000000 ∨ w = 0x80000000 := by
  rw [isZero, beq_iff_eq]
  constructor
  · intro h
    rw [← ofMag_signBit_magBits w, h]
    cases signBit w
    · exact .inl rfl
    · exact .inr rfl
  · rintro (rfl | rfl) <;> rfl

/-! ### NaN patterns of draws (R15) -/

theorem nanOf_exp (d : Word) : expField (nanOf d) = 255 := by
  have h : (nanOf d).extractLsb' 23 8 = BitVec.allOnes 8 := by
    unfold nanOf
    split <;> rw [BitVec.extractLsb'_or] <;> exact BitVec.or_allOnes
  rw [expField, h]
  rfl

theorem nanOf_frac (d : Word) : fracField (nanOf d) ≠ 0 := by
  have h : (nanOf d).extractLsb' 0 23 ≠ 0 := by
    unfold nanOf
    split
    · next hd => rw [BitVec.extractLsb'_or, hd]; decide
    · next hd => rw [BitVec.extractLsb'_or]; exact fun h => hd (by simpa using h)
  exact fun hz => h (BitVec.eq_of_toNat_eq hz)

theorem isNaN_nanOf (d : Word) : isNaN (nanOf d) = true := (isNaN_iff _).2 ⟨nanOf_exp d, nanOf_frac d⟩

/-- A word whose exponent is 0xFF has all the bits that `nanOf` sets. -/
theorem or_expMask {w : Word} (h : expField w = 255) : w ||| 0x7F800000 = w := by
  have hexp : w.extractLsb' 23 8 = BitVec.allOnes 8 := BitVec.eq_of_toNat_eq h
  apply BitVec.eq_of_getLsbD_eq
  intro i hi
  rw [BitVec.getLsbD_or, Bool.or_eq_left_iff_imp]
  intro hm
  have hrange : 23 ≤ i ∧ i < 31 := by
    revert hm; revert i; decide
  have hlt : i - 23 < 8 := by omega
  have hbit := congrArg (fun v => v.getLsbD (i - 23)) hexp
  rw [BitVec.getLsbD_extractLsb', BitVec.getLsbD_allOnes] at hbit
  simpa [hlt, show 23 + (i - 23) = i by omega] using hbit

theorem nanOf_of_isNaN {w : Word} (h : isNaN w = true) : nanOf w = w := by
  obtain ⟨hexp, hfrac⟩ := (isNaN_iff w).1 h
  have hf : w.extractLsb' 0 23 ≠ 0 := fun hz => hfrac (congrArg BitVec.toNat hz)
  rw [nanOf, if_neg hf, or_expMask hexp]

/-! ### Units -/

/-- The sign of a word as a factor. -/
def signQ (neg : Bool) : ℚ := if neg then -1 else 1

@[simp] theorem signQ_true : signQ true = -1 := rfl

@[simp] theorem signQ_false : signQ false = 1 := rfl

theorem signQ_xor (a b : Bool) : signQ (a ^^ b) = signQ a * signQ b := by
  cases a <;> cases b <;> simp

@[simp] theorem signQ_mul_self (a : Bool) : signQ a * signQ a = 1 := by cases a <;> simp

@[simp] theorem abs_signQ (a : Bool) : |signQ a| = 1 := by cases a <;> simp

theorem signQ_ne_zero (a : Bool) : signQ a ≠ 0 := by cases a <;> simp

theorem signQ_not (a : Bool) : signQ (!a) = -signQ a := by cases a <;> simp

theorem signedUnits_cast (neg : Bool) (u : Nat) : (signedUnits neg u : ℚ) = signQ neg * u := by
  cases neg <;> simp [signedUnits]

/-- An integer is its magnitude with its sign, whatever the sign given to zero. -/
theorem signQ_mul_natAbs {neg : Bool} {n : Int} (h : n ≠ 0 → neg = decide (n < 0)) :
    signQ neg * (n.natAbs : ℚ) = n := by
  by_cases hn : n = 0
  · simp [hn]
  · obtain rfl := h hn
    by_cases hneg : n < 0
    · simp [hneg, Nat.cast_natAbs, abs_of_neg hneg]
    · simp [hneg, Nat.cast_natAbs, abs_of_nonneg (not_lt.1 hneg)]

/-- The value of a word, read from its fields, is its signed units of 2^(-149) (R10, R12). -/
theorem valQ_eq (w : Word) : valQ w = signQ (signBit w) * magUnits (magBits w) / 2 ^ 149 := by
  rw [valQ, expField_eq, fracField_eq]
  change signQ (signBit w) * _ = _
  rw [mul_div_assoc]
  congr 1
  rw [magUnits]
  generalize magBits w / 2 ^ 23 = e
  generalize magBits w % 2 ^ 23 = f
  cases e with
  | zero => norm_num; ring
  | succ e =>
    rw [if_neg (by omega), if_neg (by omega)]
    have hexp : ((e + 1 : ℕ) : ℤ) - 127 = (e : ℤ) - 126 := by push_cast; ring
    rw [hexp, zpow_sub₀ (by norm_num), zpow_natCast]
    push_cast
    norm_num
    ring

/-- `valQ_eq` with the model's signed units. -/
theorem valQ_eq_signedUnits (w : Word) : valQ w = signedUnits (signBit w) (magUnits (magBits w)) / 2 ^ 149 := by
  rw [valQ_eq, signedUnits_cast]

theorem magUnits_zero : magUnits 0 = 0 := rfl

/-- A binade: `q` steps of `2^k` units. The last step of one binade is the first of the next. -/
theorem magUnits_binade {k q : Nat} (hq : q ≤ 2 ^ 24) (hk : k = 0 ∨ 2 ^ 23 ≤ q) :
    magUnits (k * 2 ^ 23 + q) = q * 2 ^ k := by
  unfold magUnits
  by_cases hlow : q < 2 ^ 23
  · obtain rfl : k = 0 := by omega
    rw [if_pos (by omega)]
    omega
  by_cases htop : q = 2 ^ 24
  · rw [if_neg (by omega), show (k * 2 ^ 23 + q) / 2 ^ 23 - 1 = k + 1 by omega,
      show 2 ^ 23 + (k * 2 ^ 23 + q) % 2 ^ 23 = 2 ^ 23 by omega, htop, pow_succ]
    ring
  · rw [if_neg (by omega), show (k * 2 ^ 23 + q) / 2 ^ 23 - 1 = k by omega,
      show 2 ^ 23 + (k * 2 ^ 23 + q) % 2 ^ 23 = q by omega]

theorem exists_binade (m : Nat) : ∃ k q, m = k * 2 ^ 23 + q ∧ q < 2 ^ 24 ∧ (k = 0 ∨ 2 ^ 23 ≤ q) :=
  ⟨m / 2 ^ 23 - 1, m - (m / 2 ^ 23 - 1) * 2 ^ 23, by omega, by omega, by omega⟩

/-- A larger magnitude is more units. -/
theorem magUnits_strictMono : StrictMono magUnits := by
  refine strictMono_nat_of_lt_succ fun m => ?_
  obtain ⟨k, q, rfl, hq, hk⟩ := exists_binade m
  rw [add_assoc, magUnits_binade hq.le hk, magUnits_binade hq (hk.imp_right (by omega))]
  exact Nat.mul_lt_mul_of_pos_right (Nat.lt_succ_self q) (by positivity)

theorem magUnits_eq_zero {m : Nat} : magUnits m = 0 ↔ m = 0 :=
  magUnits_strictMono.injective.eq_iff' magUnits_zero

theorem valQ_eq_zero (w : Word) : valQ w = 0 ↔ magBits w = 0 := by
  rw [valQ_eq, div_eq_zero_iff, mul_eq_zero, Nat.cast_eq_zero, magUnits_eq_zero]
  simp [signQ_ne_zero]

theorem magUnits_ne_zero_of_isZero {w : Word} (h : isZero w = false) : magUnits (magBits w) ≠ 0 := by
  rw [Ne, magUnits_eq_zero]
  simpa [isZero] using h

end Sys2Proof.Machine
end

section
/-! SUPPORT. Rounding: `roundMag` is the nearest magnitude, ties to even (R11). -/

namespace Sys2Proof.Machine

open Sys2Proof.Claims

/-- Magnitude `m` is nearest to `x` units, and even where another one is as near. -/
def IsNearestEven (x : ℚ) (m : Nat) : Prop :=
  ∀ m', |(magUnits m : ℚ) - x| ≤ |(magUnits m' : ℚ) - x| ∧
    (|(magUnits m' : ℚ) - x| = |(magUnits m : ℚ) - x| → m' ≠ m → m % 2 = 0)

theorem magUnits_cast_le {m m' : Nat} : (magUnits m : ℚ) ≤ magUnits m' ↔ m ≤ m' := by
  rw [Nat.cast_le, magUnits_strictMono.le_iff_le]

/-- Rounding down between two neighbours. -/
theorem isNearestEven_lower {x : ℚ} {m : Nat} (hlo : (magUnits m : ℚ) ≤ x)
    (hnear : x - magUnits m ≤ magUnits (m + 1) - x) (htie : x - magUnits m = magUnits (m + 1) - x → m % 2 = 0) :
    IsNearestEven x m := by
  intro m'
  rw [abs_of_nonpos (by linarith : (magUnits m : ℚ) - x ≤ 0)]
  rcases le_or_gt m' m with h | h
  · have hle := magUnits_cast_le.2 h
    rw [abs_of_nonpos (by linarith)]
    refine ⟨by linarith, fun heq hne => absurd (le_antisymm h (magUnits_cast_le.1 (by linarith))) hne⟩
  · have hle := magUnits_cast_le.2 (Nat.succ_le_of_lt h)
    rw [Nat.succ_eq_add_one] at hle
    rw [abs_of_nonneg (by linarith)]
    exact ⟨by linarith, fun heq _ => htie (by linarith)⟩

/-- Rounding up between two neighbours. -/
theorem isNearestEven_upper {x : ℚ} {m : Nat} (hhi : x ≤ magUnits (m + 1))
    (hnear : magUnits (m + 1) - x ≤ x - magUnits m) (htie : x - magUnits m = magUnits (m + 1) - x → (m + 1) % 2 = 0) :
    IsNearestEven x (m + 1) := by
  intro m'
  rw [abs_of_nonneg (by linarith : 0 ≤ (magUnits (m + 1) : ℚ) - x)]
  rcases lt_or_ge m' (m + 1) with h | h
  · have hle := magUnits_cast_le.2 (Nat.le_of_lt_succ h)
    rw [abs_of_nonpos (by linarith)]
    exact ⟨by linarith, fun heq _ => htie (by linarith)⟩
  · have hle := magUnits_cast_le.2 h
    rw [abs_of_nonneg (by linarith)]
    refine ⟨by linarith, fun heq hne => absurd (le_antisymm (magUnits_cast_le.1 (by linarith)) h) hne⟩

/-- The binade `roundMag` picks for `n` whole units: its step, `2^k` units, leaves at most 24 bits of quotient, and
exactly 24 above the lowest binade. -/
theorem log2_binade (n : Nat) :
    n / 2 ^ (Nat.log2 n - 23) < 2 ^ 24 ∧ (Nat.log2 n - 23 = 0 ∨ 2 ^ 23 ≤ n / 2 ^ (Nat.log2 n - 23)) := by
  by_cases hzero : n = 0
  · subst hzero; decide
  have hlo : 2 ^ Nat.log2 n ≤ n := Nat.log2_self_le hzero
  have hhi : n < 2 ^ (Nat.log2 n + 1) := Nat.lt_log2_self
  refine ⟨?_, ?_⟩
  · rw [Nat.div_lt_iff_lt_mul (by positivity), ← pow_add]
    exact hhi.trans_le (Nat.pow_le_pow_right (by decide) (by omega))
  · refine (Nat.eq_zero_or_pos _).imp_right fun h => ?_
    rw [Nat.le_div_iff_mul_le (by positivity), ← pow_add, show 23 + (Nat.log2 n - 23) = Nat.log2 n by omega]
    exact hlo

/-- Rounding within a binade: `x` is `q` steps and `r` parts of a step of `d` parts, `2^k = d / c` units wide. -/
theorem isNearestEven_of_binade {x c : ℚ} {k q d r : Nat} (hq : q < 2 ^ 24) (hk : k = 0 ∨ 2 ^ 23 ≤ q) (hc : 0 < c)
    (hd : (d : ℚ) = c * 2 ^ k) (hx : x = q * 2 ^ k + r / c) (hr : r < d) :
    IsNearestEven x (k * 2 ^ 23 + if d < 2 * r ∨ (2 * r = d ∧ q % 2 = 1) then q + 1 else q) := by
  have hlo : (magUnits (k * 2 ^ 23 + q) : ℚ) = q * 2 ^ k := by
    rw [magUnits_binade hq.le hk]; push_cast; rfl
  have hhi : (magUnits (k * 2 ^ 23 + q + 1) : ℚ) = (q + 1) * 2 ^ k := by
    rw [add_assoc, magUnits_binade hq (hk.imp_right (by omega))]; push_cast; rfl
  have hbelow : x - magUnits (k * 2 ^ 23 + q) = r / c := by rw [hlo, hx]; ring
  have habove : magUnits (k * 2 ^ 23 + q + 1) - x = (d - r : ℕ) / c := by
    rw [hhi, hx, Nat.cast_sub hr.le, hd]; field_simp; ring
  have hle_x : (magUnits (k * 2 ^ 23 + q) : ℚ) ≤ x := sub_nonneg.1 (hbelow ▸ by positivity)
  have hx_le : x ≤ magUnits (k * 2 ^ 23 + q + 1) := sub_nonneg.1 (habove ▸ by positivity)
  have htie : (r : ℚ) / c = (d - r : ℕ) / c → r = d - r := fun h => by
    exact_mod_cast (div_left_inj' hc.ne').1 h
  split
  · next hup =>
    rw [← add_assoc]
    refine isNearestEven_upper hx_le ?_ ?_
    · rw [hbelow, habove, div_le_div_iff_of_pos_right hc]
      exact_mod_cast (by omega : d - r ≤ r)
    · rw [hbelow, habove]
      exact fun h => by have := htie h; omega
  · next hdown =>
    refine isNearestEven_lower hle_x ?_ ?_
    · rw [hbelow, habove, div_le_div_iff_of_pos_right hc]
      exact_mod_cast (by omega : r ≤ d - r)
    · rw [hbelow, habove]
      exact fun h => by have := htie h; omega

/-- `roundMag` is the nearest magnitude, cut off at infinity (R11). -/
theorem roundMag_nearest (num : Nat) {den : Nat} (hden : 0 < den) :
    ∃ m, IsNearestEven ((num : ℚ) / den) m ∧ roundMag num den = min m infMag := by
  obtain ⟨hq, hk⟩ := log2_binade (num / den)
  rw [Nat.div_div_eq_div_mul] at hq hk
  have hdenQ : (0 : ℚ) < den := by exact_mod_cast hden
  have hx : (num : ℚ) / den = (num / (den * 2 ^ (Nat.log2 (num / den) - 23)) : ℕ) * 2 ^ (Nat.log2 (num / den) - 23) +
      (num % (den * 2 ^ (Nat.log2 (num / den) - 23)) : ℕ) / den := by
    have hdiv := Nat.div_add_mod num (den * 2 ^ (Nat.log2 (num / den) - 23))
    rw [div_eq_iff hdenQ.ne']
    nth_rw 1 [← hdiv]
    push_cast
    field_simp
  refine ⟨_, isNearestEven_of_binade hq hk hdenQ (by push_cast; rfl) hx (Nat.mod_lt _ (by positivity)), ?_⟩
  simp [roundMag]

/-! ### The range of finite magnitudes -/

/-- Infinity's magnitude, in half units in the last place of the largest binade. -/
theorem magUnits_infMag : (magUnits infMag : ℚ) = 2 ^ 25 * 2 ^ 252 := by
  have h : magUnits infMag = 2 ^ 23 * 2 ^ 254 := magUnits_binade (k := 254) (q := 2 ^ 23) (by decide) (.inr le_rfl)
  rw [h]
  norm_num

/-- The largest finite magnitude is two half units in the last place below infinity's. -/
theorem magUnits_maxFinite : (magUnits (infMag - 1) : ℚ) = (2 ^ 25 - 2) * 2 ^ 252 := by
  have h : magUnits (infMag - 1) = (2 ^ 24 - 1) * 2 ^ 253 :=
    magUnits_binade (k := 253) (q := 2 ^ 24 - 1) (by decide) (.inr (by decide))
  rw [h]
  norm_num

/-- Below half a unit past the largest finite value, the nearest magnitude is finite. -/
theorem IsNearestEven.lt_infMag {x : ℚ} {m : Nat} (h : IsNearestEven x m) (hx : x < (2 ^ 25 - 1) * 2 ^ 252) :
    m < infMag := by
  by_contra hm
  have hge := magUnits_cast_le.2 (not_lt.1 hm)
  have hnear := (le_abs_self _).trans (h (infMag - 1)).1
  have hC : (0 : ℚ) < 2 ^ 252 := by positivity
  rw [magUnits_infMag] at hge
  rw [magUnits_maxFinite] at hnear
  generalize (2 : ℚ) ^ 252 = C at *
  rcases abs_cases ((2 ^ 25 - 2) * C - x) with ⟨habs, -⟩ | ⟨habs, -⟩ <;> rw [habs] at hnear <;> linarith

/-- From there on, it is not: half way, infinity is the even neighbour. -/
theorem IsNearestEven.infMag_le {x : ℚ} {m : Nat} (h : IsNearestEven x m) (hx : (2 ^ 25 - 1) * 2 ^ 252 ≤ x) :
    infMag ≤ m := by
  by_contra hm
  have hle := magUnits_cast_le.2 (Nat.le_sub_one_of_lt (not_le.1 hm))
  obtain ⟨hnear, htie⟩ := h infMag
  have hC : (0 : ℚ) < 2 ^ 252 := by positivity
  have hmax := magUnits_maxFinite
  have hodd : (infMag - 1) % 2 = 1 := by decide
  have habs : |(magUnits m : ℚ) - x| = x - magUnits m := by
    rw [abs_of_nonpos (by linarith)]; ring
  rw [habs] at hnear htie
  rw [magUnits_infMag] at hnear htie
  generalize (2 : ℚ) ^ 252 = C at *
  rcases abs_cases (2 ^ 25 * C - x) with ⟨h', -⟩ | ⟨h', -⟩ <;> rw [h'] at hnear htie
  · have hm' : m = infMag - 1 := le_antisymm (Nat.le_sub_one_of_lt (not_le.1 hm)) (magUnits_cast_le.1 (by linarith))
    have := htie (by linarith) (not_le.1 hm).ne'
    omega
  · linarith

/-- A zero result is exact. -/
theorem roundMag_zero (den : Nat) : roundMag 0 den = 0 := by
  simp [roundMag]

/-! ### The rounded word -/

theorem roundMag_le (num den : Nat) : roundMag num den ≤ infMag := min_le_right _ _

theorem roundMag_lt (num den : Nat) : roundMag num den < 2 ^ 31 := (roundMag_le num den).trans_lt infMag_lt

theorem valQ_ofMag {m : Nat} (neg : Bool) (h : m < 2 ^ 31) : valQ (ofMag neg m) = signQ neg * magUnits m / 2 ^ 149 := by
  rw [valQ_eq, signBit_ofMag neg h, magBits_ofMag neg h]

/-- The distance of a word from a result of sign `neg` and `x` units: by units on the same side, else past zero. -/
theorem abs_valQ_sub (neg : Bool) (x : ℚ) (w : Word) :
    |valQ w - signQ neg * x / 2 ^ 149| =
      |signQ (signBit w ^^ neg) * magUnits (magBits w) - x| / 2 ^ 149 := by
  have hfactor : valQ w - signQ neg * x / 2 ^ 149 =
      signQ neg * ((signQ (signBit w ^^ neg) * magUnits (magBits w) - x) / 2 ^ 149) := by
    rw [valQ_eq, signQ_xor]
    linear_combination (- signQ (signBit w) * magUnits (magBits w) / 2 ^ 149) * signQ_mul_self neg
  rw [hfactor, abs_mul, abs_signQ, one_mul, abs_div, abs_of_pos (by positivity : (0 : ℚ) < 2 ^ 149)]

/-- A magnitude is no nearer with the wrong sign, and as near only if it or the result is zero. -/
theorem abs_sub_le_abs_signQ_mul_sub {u x : ℚ} (s : Bool) (hu : 0 ≤ u) (hx : 0 ≤ x) :
    |u - x| ≤ |signQ s * u - x| ∧ (|signQ s * u - x| = |u - x| → s = false ∨ u = 0 ∨ x = 0) := by
  cases s
  · simp
  · rw [signQ_true, abs_of_nonpos (by linarith : -1 * u - x ≤ 0)]
    rcases abs_cases (u - x) with ⟨h, -⟩ | ⟨h, -⟩ <;> rw [h]
    · exact ⟨by linarith, fun heq => .inr (.inr (by linarith))⟩
    · exact ⟨by linarith, fun heq => .inr (.inl (by linarith))⟩

/-- A zero result has the magnitude zero. -/
theorem IsNearestEven.eq_zero {m : Nat} (h : IsNearestEven 0 m) : m = 0 := by
  have := (h 0).1
  simpa [magUnits_zero, magUnits_eq_zero] using this

/-- The word of the nearest magnitude is at least as near as every word, and even if another one is as near. -/
theorem nearest_ofMag {x : ℚ} {m : Nat} (neg : Bool) (hx : 0 ≤ x) (hm : m < 2 ^ 31) (h : IsNearestEven x m) (w : Word) :
    let e := signQ neg * x / 2 ^ 149
    let r := ofMag neg m
    |valQ r - e| ≤ |valQ w - e| ∧ (|valQ w - e| = |valQ r - e| → valQ w ≠ valQ r → m % 2 = 0) := by
  have hr : |valQ (ofMag neg m) - signQ neg * x / 2 ^ 149| = |(magUnits m : ℚ) - x| / 2 ^ 149 := by
    rw [abs_valQ_sub, signBit_ofMag neg hm, magBits_ofMag neg hm]; simp
  have hC : (0 : ℚ) < 2 ^ 149 := by positivity
  obtain ⟨hnear, htie⟩ := h (magBits w)
  obtain ⟨hside, hsame⟩ :=
    abs_sub_le_abs_signQ_mul_sub (signBit w ^^ neg) (Nat.cast_nonneg (magUnits (magBits w))) hx
  simp only [hr, abs_valQ_sub neg x w, div_le_div_iff_of_pos_right hC, div_left_inj' hC.ne']
  refine ⟨hnear.trans hside, fun heq hne => ?_⟩
  have heven := htie (le_antisymm (heq ▸ hside) hnear)
  by_cases hmag : magBits w = m
  · rw [hmag] at hsame heq
    refine absurd ?_ hne
    rw [valQ_eq, valQ_ofMag neg hm, hmag]
    obtain hs | hu | hx0 := hsame heq
    · rw [show signBit w = neg by simpa using hs]
    · simp [hu]
    · subst hx0
      simp [h.eq_zero, magUnits_zero]
  · exact heven hmag

/-- A result given with its sign and its exact units, a quotient of two numbers, is rounded by `roundMag` (R11). -/
theorem correctlyRounded_ofMag {e : ℚ} {neg : Bool} {num den : Nat} (hden : 0 < den)
    (he : e = signQ neg * ((num : ℚ) / den) / 2 ^ 149) : CorrectlyRounded e (ofMag neg (roundMag num den)) := by
  obtain ⟨m, hm, hround⟩ := roundMag_nearest num hden
  have hlt := roundMag_lt num den
  have hx : (0 : ℚ) ≤ (num : ℚ) / den := by positivity
  have habs : |e| = (num : ℚ) / den / 2 ^ 149 := by
    rw [he, abs_div, abs_mul, abs_signQ, one_mul, abs_of_nonneg hx, abs_of_pos (by positivity)]
  have hbound : (2 - 2 ^ (-24 : ℤ)) * 2 ^ (127 : ℤ) = ((2 ^ 25 - 1) * 2 ^ 252 : ℚ) / 2 ^ 149 := by norm_num
  have hC : (0 : ℚ) < 2 ^ 149 := by positivity
  rw [CorrectlyRounded, habs, hbound, div_lt_div_iff_of_pos_right hC, div_le_div_iff_of_pos_right hC]
  refine ⟨fun hne => ?_, fun hsmall => ?_, fun hlarge => ?_⟩
  · have hsign : (ofMag neg (roundMag num den)).getLsbD 31 = neg := signBit_ofMag neg hlt
    rw [hsign]
    have hpos : (0 : ℚ) < (num : ℚ) / den / 2 ^ 149 := habs ▸ abs_pos.2 hne
    cases neg
    · have : e = (num : ℚ) / den / 2 ^ 149 := by rw [he]; simp
      simp [this, hpos.le]
    · have : e = -((num : ℚ) / den / 2 ^ 149) := by rw [he]; simp; ring
      simp [this, hpos]
  · have hfin := hm.lt_infMag hsmall
    have hmag : roundMag num den = m := by rw [hround, min_eq_left hfin.le]
    rw [hmag] at hlt ⊢
    refine ⟨(finite_iff _).2 ((magBits_ofMag neg hlt).trans_lt hfin), fun w _ => ?_⟩
    have hfrac : fracField (ofMag neg m) % 2 = m % 2 := by
      rw [fracField_eq, magBits_ofMag neg hlt]; omega
    rw [hfrac, he]
    exact nearest_ofMag neg hx hlt hm w
  · have hmag : roundMag num den = infMag := by rw [hround, min_eq_right (hm.infMag_le hlarge)]
    rw [hmag, expField_eq, fracField_eq, magBits_ofMag neg infMag_lt]
    decide

end Sys2Proof.Machine
end

section
/-! SUPPORT. The statements about binary32: each operation computes an exact number of units with a sign, and rounds it. -/

namespace Sys2Proof.Machine

open Sys2Proof.Claims

/-! ### The operations on finite values -/

theorem fadd_finite (d : Word) {p q : Word} (hp : Claims.Finite p) (hq : Claims.Finite q) :
    fadd d p q = addVal d (.fin (signBit p) (magUnits (magBits p))) (.fin (signBit q) (magUnits (magBits q))) := by
  rw [fadd, val_of_finite hp, val_of_finite hq]

theorem fsub_finite (d : Word) {p q : Word} (hp : Claims.Finite p) (hq : Claims.Finite q) :
    fsub d p q = addVal d (.fin (signBit p) (magUnits (magBits p))) (.fin (!signBit q) (magUnits (magBits q))) := by
  rw [fsub, val_of_finite hp, val_of_finite hq, FVal.neg]

theorem fmul_finite (d : Word) {p q : Word} (hp : Claims.Finite p) (hq : Claims.Finite q) :
    fmul d p q = ofMag (signBit p ^^ signBit q) (roundMag (magUnits (magBits p) * magUnits (magBits q)) (2 ^ 149)) := by
  rw [fmul, val_of_finite hp, val_of_finite hq, mulVal]

theorem fdiv_finite (d : Word) {p q : Word} (hp : Claims.Finite p) (hq : Claims.Finite q) (hne : valQ q ≠ 0) :
    fdiv d p q = ofMag (signBit p ^^ signBit q) (roundMag (magUnits (magBits p) * 2 ^ 149) (magUnits (magBits q))) := by
  rw [Ne, valQ_eq_zero, ← magUnits_eq_zero] at hne
  rw [fdiv, val_of_finite hp, val_of_finite hq, divVal, if_neg hne]

theorem valQ_add (p q : Word) : valQ p + valQ q =
    ((signedUnits (signBit p) (magUnits (magBits p)) + signedUnits (signBit q) (magUnits (magBits q)) : ℤ) : ℚ) /
      2 ^ 149 := by
  rw [valQ_eq_signedUnits, valQ_eq_signedUnits, ← add_div, Int.cast_add]

theorem valQ_sub (p q : Word) : valQ p - valQ q =
    ((signedUnits (signBit p) (magUnits (magBits p)) + signedUnits (!signBit q) (magUnits (magBits q)) : ℤ) : ℚ) /
      2 ^ 149 := by
  rw [valQ_eq_signedUnits, valQ_eq_signedUnits, ← sub_div, Int.cast_add, signedUnits_cast (!_), signQ_not,
    signedUnits_cast (signBit q)]
  ring

/-- The sum of two finite values is their exact sum, rounded. -/
theorem addVal_correctlyRounded (d : Word) (a b : Bool) (u v : Nat) :
    CorrectlyRounded (((signedUnits a u + signedUnits b v : ℤ) : ℚ) / 2 ^ 149) (addVal d (.fin a u) (.fin b v)) := by
  rw [addVal]
  refine correctlyRounded_ofMag one_pos ?_
  rw [Nat.cast_one, div_one, signQ_mul_natAbs fun hne => if_neg hne]

/-- An exact zero sum is −0 only if both terms are. -/
theorem addVal_eq_zeroW (d : Word) {a b : Bool} {u v : Nat} (h : signedUnits a u + signedUnits b v = 0) :
    addVal d (.fin a u) (.fin b v) = zeroW (a && b) := by
  simp [addVal, h, roundMag_zero, ofMag_zero]

/-- A sum of units over 2^149 is zero only if the units are. -/
theorem units_eq_zero {n : Int} (h : (n : ℚ) / 2 ^ 149 = 0) : n = 0 := by
  simpa using h

theorem fmul_correctlyRounded (d : Word) {p q : Word} (hp : Claims.Finite p) (hq : Claims.Finite q) :
    CorrectlyRounded (valQ p * valQ q) (fmul d p q) := by
  rw [fmul_finite d hp hq]
  refine correctlyRounded_ofMag (by positivity) ?_
  rw [valQ_eq, valQ_eq, signQ_xor]
  push_cast
  ring

theorem fdiv_correctlyRounded (d : Word) {p q : Word} (hp : Claims.Finite p) (hq : Claims.Finite q)
    (hne : valQ q ≠ 0) : CorrectlyRounded (valQ p / valQ q) (fdiv d p q) := by
  rw [fdiv_finite d hp hq hne]
  rw [Ne, valQ_eq_zero, ← magUnits_eq_zero] at hne
  refine correctlyRounded_ofMag (Nat.pos_of_ne_zero hne) ?_
  have hv : (magUnits (magBits q) : ℚ) ≠ 0 := by exact_mod_cast hne
  have hs := signQ_ne_zero (signBit q)
  rw [valQ_eq, valQ_eq, signQ_xor]
  push_cast
  field_simp
  rw [pow_two, signQ_mul_self, mul_one]
  norm_num

theorem i2f_correctlyRounded (n : Int) : CorrectlyRounded (n : ℚ) (i2f n) := by
  refine correctlyRounded_ofMag one_pos ?_
  have hn : signQ (decide (n < 0)) * (n.natAbs : ℚ) = n := signQ_mul_natAbs fun _ => rfl
  simp only [Nat.cast_mul, Nat.cast_pow, Nat.cast_ofNat, Nat.cast_one]
  linear_combination -hn

/-! ### NaN, infinities and zeros -/

theorem addVal_nan_right (d : Word) (x : FVal) : addVal d x .nan = nanOf d := by cases x <;> rfl

theorem mulVal_nan_right (d : Word) (x : FVal) : mulVal d x .nan = nanOf d := by cases x <;> rfl

theorem divVal_nan_right (d : Word) (x : FVal) : divVal d x .nan = nanOf d := by cases x <;> rfl

theorem gtVal_nan_right (x : FVal) : gtVal x .nan = false := by cases x <;> rfl

/-- A NaN operand of any operation makes its draw's NaN (R11, R15). -/
theorem eq_nanOf_of_isNaN (d : Word) {p q : Word} (h : isNaN p = true ∨ isNaN q = true) :
    fadd d p q = nanOf d ∧ fsub d p q = nanOf d ∧ fmul d p q = nanOf d ∧ fdiv d p q = nanOf d := by
  rcases h with h | h
  · rw [fadd, fsub, fmul, fdiv, val_of_isNaN h]
    exact ⟨rfl, rfl, rfl, rfl⟩
  · rw [fadd, fsub, fmul, fdiv, val_of_isNaN h]
    exact ⟨addVal_nan_right d _, addVal_nan_right d _, mulVal_nan_right d _, divVal_nan_right d _⟩

/-- The operations on two infinities (R11; assumption 8). -/
theorem ops_infW_infW (d : Word) (a b : Bool) :
    fadd d (infW a) (infW b) = (if a = b then infW a else nanOf d) ∧
    fsub d (infW a) (infW b) = (if a = b then nanOf d else infW a) ∧
    fmul d (infW a) (infW b) = infW (a ^^ b) ∧ fdiv d (infW a) (infW b) = nanOf d := by
  simp only [fadd, fsub, fmul, fdiv, val_infW, FVal.neg, addVal, mulVal, divVal, ofMag_infMag]
  cases a <;> cases b <;> simp

/-- The operations on zeros that have no value (R11). -/
theorem zeroW_ops_eq_nanOf (d : Word) (a b : Bool) :
    fmul d (zeroW a) (infW b) = nanOf d ∧ fmul d (infW a) (zeroW b) = nanOf d ∧
    fdiv d (zeroW a) (zeroW b) = nanOf d := by
  simp [fmul, fdiv, mulVal, divVal]

/-- An infinity with a finite operand, in sums and quotients (R11; assumption 8). -/
theorem ops_infW_finite (d : Word) (a : Bool) {p : Word} (hp : Claims.Finite p) :
    fadd d (infW a) p = infW a ∧ fadd d p (infW a) = infW a ∧ fsub d (infW a) p = infW a ∧
    fsub d p (infW a) = infW (!a) ∧ fdiv d (infW a) p = infW (a ^^ signBit p) ∧
    fdiv d p (infW a) = zeroW (signBit p ^^ a) := by
  simp [fadd, fsub, fdiv, val_of_finite hp, FVal.neg, addVal, divVal, ofMag_infMag, ofMag_zero]

/-- An infinity with a finite operand that is not zero, in products, and such an operand over zero (R11;
assumption 8). -/
theorem ops_infW_nonzero (d : Word) (a : Bool) {p : Word} (hp : Claims.Finite p) (hz : isZero p = false) :
    fmul d (infW a) p = infW (a ^^ signBit p) ∧ fmul d p (infW a) = infW (signBit p ^^ a) ∧
    fdiv d p (zeroW a) = infW (signBit p ^^ a) := by
  simp [fmul, fdiv, val_of_finite hp, mulVal, divVal, magUnits_ne_zero_of_isZero hz, ofMag_infMag]

/-- An exact zero product or quotient has the sign of its operands' signs (R11; assumption 8). -/
theorem fmul_eq_zeroW (d : Word) {p q : Word} (hp : Claims.Finite p) (hq : Claims.Finite q)
    (h : valQ p * valQ q = 0) : fmul d p q = zeroW (signBit p ^^ signBit q) := by
  have hunits : magUnits (magBits p) * magUnits (magBits q) = 0 := by
    rw [mul_eq_zero, magUnits_eq_zero, magUnits_eq_zero, ← valQ_eq_zero, ← valQ_eq_zero, ← mul_eq_zero, h]
  rw [fmul_finite d hp hq, hunits, roundMag_zero, ofMag_zero]

theorem fdiv_eq_zeroW (d : Word) {p q : Word} (hp : Claims.Finite p) (hq : Claims.Finite q)
    (h : valQ p = 0) (hne : valQ q ≠ 0) : fdiv d p q = zeroW (signBit p ^^ signBit q) := by
  rw [fdiv_finite d hp hq hne, (valQ_eq_zero p).1 h, magUnits_zero, zero_mul, roundMag_zero, ofMag_zero]

/-! ### Comparisons -/

theorem fgt_finite {p q : Word} (hp : Claims.Finite p) (hq : Claims.Finite q) :
    fgt p q = true ↔ valQ q < valQ p := by
  rw [fgt, val_of_finite hp, val_of_finite hq, gtVal, decide_eq_true_eq, valQ_eq_signedUnits, valQ_eq_signedUnits,
    div_lt_div_iff_of_pos_right (by positivity), Int.cast_lt]

theorem fle_of_not_isNaN {p q : Word} (hp : isNaN p = false) (hq : isNaN q = false) : fle p q = !fgt p q := by
  simp [fle, hp, hq]

theorem fgt_of_isNaN {p q : Word} (h : isNaN p = true ∨ isNaN q = true) : fgt p q = false := by
  rcases h with h | h <;> rw [fgt, val_of_isNaN h]
  · rfl
  · exact gtVal_nan_right _

theorem fle_of_isNaN {p q : Word} (h : isNaN p = true ∨ isNaN q = true) : fle p q = false := by
  rcases h with h | h <;> simp [fle, h]

end Sys2Proof.Machine

namespace Sys2Proof.Proofs

open Sys2Proof Sys2Proof.Machine Sys2Proof.Claims

/-- Settles O57: the exact sum of the signed units is rounded; a difference is a sum with the sign turned. -/
theorem additionIsCorrectlyRounded : Obligations.AdditionIsCorrectlyRounded := by
  intro d p q hp hq
  rw [fadd_finite d hp hq, fsub_finite d hp hq, valQ_add, valQ_sub]
  exact ⟨addVal_correctlyRounded d _ _ _ _, addVal_correctlyRounded d _ _ _ _⟩

/-- Settles O58: one operation on exact units, then one rounding, for each of the three. -/
theorem productQuotientAndConversionAreCorrectlyRounded :
    Obligations.ProductQuotientAndConversionAreCorrectlyRounded :=
  ⟨fun d _ _ hp hq => fmul_correctlyRounded d hp hq, fun d _ _ hp hq hne => fdiv_correctlyRounded d hp hq hne,
    fun n _ _ => i2f_correctlyRounded n⟩

/-- Settles O59: by the classes of the operands, one lemma for each. -/
theorem specialValues : Obligations.SpecialValues := by
  refine ⟨fun d p q h => ?_, fun d a b => ?_, fun d p a hp => ?_, fun d p q hp hq => ?_, isNaN_iff, isNaN_nanOf,
    fun w => nanOf_of_isNaN⟩
  · obtain ⟨hadd, hsub, hmul, hdiv⟩ := eq_nanOf_of_isNaN d h
    rw [hadd, hsub, hmul, hdiv]
    exact ⟨isNaN_nanOf d, isNaN_nanOf d, isNaN_nanOf d, isNaN_nanOf d⟩
  · obtain ⟨hadd, hsub, hmul, hdiv⟩ := ops_infW_infW d a b
    exact ⟨hadd, hsub, hmul, hdiv, zeroW_ops_eq_nanOf d a b⟩
  · obtain ⟨hadd, hadd', hsub, hsub', hdiv, hdiv'⟩ := ops_infW_finite d a hp
    exact ⟨hadd, hadd', hsub, hsub', hdiv, hdiv', ops_infW_nonzero d a hp⟩
  · refine ⟨fun h => ?_, fun h => ?_, fmul_eq_zeroW d hp hq, fdiv_eq_zeroW d hp hq⟩
    · rw [valQ_add] at h
      rw [fadd_finite d hp hq]
      exact addVal_eq_zeroW d (units_eq_zero h)
    · rw [valQ_sub] at h
      rw [fsub_finite d hp hq]
      exact addVal_eq_zeroW d (units_eq_zero h)

/-- Settles O60: by the classes of the operands; FLE is FGT negated where no operand is a NaN. -/
theorem comparisonsFollowTheValues : Obligations.ComparisonsFollowTheValues := by
  refine ⟨fun p q hp hq => ⟨fgt_finite hp hq, ?_⟩, fun p q h => ⟨fgt_of_isNaN h, fle_of_isNaN h⟩, fun p a hp => ?_,
    fun a b => ?_, isZero_iff⟩
  · rw [fle_of_not_isNaN (isNaN_of_finite hp) (isNaN_of_finite hq), Bool.not_eq_true', ← Bool.not_eq_true,
      fgt_finite hp hq, not_lt]
  · have habove : fgt (infW a) p = !a := by simp [fgt, val_of_finite hp, gtVal]
    have hbelow : fgt p (infW a) = a := by simp [fgt, val_of_finite hp, gtVal]
    rw [fle_of_not_isNaN (isNaN_infW a) (isNaN_of_finite hp), fle_of_not_isNaN (isNaN_of_finite hp) (isNaN_infW a),
      habove, hbelow]
    simp
  · rw [fle_of_not_isNaN (isNaN_infW a) (isNaN_infW b)]
    simp [fgt, gtVal]

end Sys2Proof.Proofs
end

section
/-! SUPPORT. The lengths of ring buffers that are pushed to, popped from and filled (R140 to R144), and what the filter
operations keep of a filter (R40, R171 to R176). -/

namespace Sys2Proof.Machine

/-! ### Indices modulo the capacity, and lengths -/

section Rings

variable {n : Nat} {B : Ring}

/-- One step back from an index in range (R8). -/
theorem pred_mod {a : Nat} (h : a < n) : (a + n - 1) % n = if a = 0 then n - 1 else a - 1 := by
  split
  · next ha => rw [ha, Nat.zero_add, Nat.mod_eq_of_lt (by omega)]
  · rw [show a + n - 1 = a - 1 + n by omega, Nat.add_mod_right, Nat.mod_eq_of_lt (by omega)]

/-- A front push to a buffer that is not full makes it one longer (R143). -/
theorem Ring.pushFront_length_of_lt (h : B.Wf n) (hlen : B.length n + 1 < n) (v : Word) :
    (B.pushFront n v).length n = B.length n + 1 := by
  rw [Ring.length_eq h] at hlen
  rw [Ring.length_eq (Ring.pushFront_wf h v), Ring.length_eq h, Ring.pushFront_start, Ring.pushFront_stop]
  obtain ⟨-, hstart, hstop⟩ := h
  rw [pred_mod hstart, pred_mod hstop]
  split_ifs at hlen ⊢ <;> omega

/-- A back pop of a buffer that is not empty makes it one shorter (R144). -/
theorem Ring.popBack_length (h : B.Wf n) (hlen : B.length n ≠ 0) : (B.popBack n).2.length n = B.length n - 1 := by
  have hwf := Ring.popBack_wf h
  obtain ⟨h0, -⟩ | ⟨-, hpop⟩ := B.popBack_cases n
  · exact absurd h0 hlen
  rw [hpop] at hwf ⊢
  rw [Ring.length_eq h] at hlen
  rw [Ring.length_eq hwf, Ring.length_eq h]
  obtain ⟨-, hstart, hstop⟩ := h
  simp only [pred_mod hstop]
  split_ifs at hlen ⊢ <;> omega

/-- A shift of a buffer with room for one more keeps its length (R170). -/
theorem filtShift_length (h : B.Wf n) (hlen : B.length n + 1 < n) (v : Word) :
    (filtShift n B v).length n = B.length n := by
  have hpush := Ring.pushFront_length_of_lt h hlen v
  rw [filtShift, Ring.popBack_length (Ring.pushFront_wf h v) (by omega), hpush, Nat.add_sub_cancel]

/-- A buffer filled with fewer words than its capacity starts at slot 0 and ends behind them (R141, R142). -/
theorem filled_indices (v : Nat → Word) {k : Nat} (h : k < n) : (filled n v k).start = 0 ∧ (filled n v k).stop = k := by
  induction k with
  | zero => exact ⟨rfl, rfl⟩
  | succ k ih =>
    obtain ⟨hstart, hstop⟩ := ih (by omega)
    simp [filled, Ring.pushBack_start, hstart, hstop, Nat.mod_eq_of_lt h]

theorem filled_length (v : Nat → Word) {k : Nat} (h : k < n) : (filled n v k).length n = k := by
  obtain ⟨hstart, hstop⟩ := filled_indices v h
  rw [Ring.length_eq (filled_wf (by omega) v k), hstart, hstop]
  simp

/-- The words of a filled buffer are those it was filled with, in order (R146, R171). -/
theorem filled_get (v : Nat → Word) {i k : Nat} (hi : i < k) (hk : k < n) : (filled n v k).get n i = v i := by
  induction k with
  | zero => omega
  | succ k ih =>
    obtain ⟨hstart, hstop⟩ := filled_indices v (show k < n by omega)
    obtain ⟨hstart', -⟩ := filled_indices v hk
    have hslots : (filled n v k).slot.length = n := (filled_wf (by omega) v k).1
    have hget : ∀ {j}, j < n → ∀ B : Ring, B.start = 0 → B.get n j = B.slot.getD j 0 := by
      intro j hj B hB
      rw [Ring.get, hB, Nat.zero_add, Nat.mod_eq_of_lt hj]
    rw [hget (by omega) _ hstart', filled, Ring.pushBack_slot, hstop]
    by_cases hik : i = k
    · subst hik
      simp [hslots, show i < n by omega]
    · rw [← ih (by omega) (by omega), hget (by omega) _ hstart]
      simp [List.getElem?_set_ne (Ne.symm hik)]

end Rings

/-! ### Filters -/

/-- A legal configuration has rings of at least four slots (R7). -/
theorem four_le_cap {c : Config} (h : configLegal c = true) : 4 ≤ c.cap := by
  obtain ⟨hlog, -⟩ := (configLegal_iff c).1 h
  exact Nat.pow_le_pow_right (by decide : 2 > 0) hlog

theorem cap_pos_of_legal {c : Config} (h : configLegal c = true) : 0 < c.cap :=
  Nat.lt_of_lt_of_le (by decide) (four_le_cap h)

theorem numCtrl_le_numFilt {c : Config} (h : configLegal c = true) : c.numCtrl ≤ c.numFilt := by
  obtain ⟨-, -, -, -, hle, -⟩ := (configLegal_iff c).1 h
  exact hle

theorem ticksPerMs_pos {c : Config} (h : configLegal c = true) : 0 < c.ticksPerMs := by
  obtain ⟨-, -, -, -, -, -, -, -, -, -, hpos, -⟩ := (configLegal_iff c).1 h
  exact hpos

theorem Filt.fresh_wf {c : Config} (h : configLegal c = true) : (Filt.fresh c.cap).Wf c := by
  have hring : (Ring.fresh c.cap).Wf c.cap := Ring.fresh_wf (cap_pos_of_legal h)
  exact ⟨Nat.zero_le _, hring, hring, hring, hring, nofun, nofun, nofun, nofun, nofun, fun _ => rfl⟩

/-- The filter holds the coefficients, the order and the validity of another: what an operating command keeps (R40). -/
structure Filt.SameDesign (F F' : Filt) : Prop where
  bufB : F'.bufB = F.bufB
  bufA : F'.bufA = F.bufA
  order : F'.order = F.order
  valid : F'.valid = F.valid

theorem filtValue_sameDesign (n : Nat) (nan : Nat → Word) (F : Filt) (x : Word) :
    F.SameDesign (filtValue n nan F x).2 := ⟨rfl, rfl, rfl, rfl⟩

theorem filtSetto_sameDesign (n : Nat) (F : Filt) (v : Word) : F.SameDesign (filtSetto n F v) := ⟨rfl, rfl, rfl, rfl⟩

theorem filtShiftby_sameDesign (n : Nat) (nan : Nat → Word) (F : Filt) (d : Word) :
    F.SameDesign (filtShiftby n nan F d) := ⟨rfl, rfl, rfl, rfl⟩

section Filters

variable {c : Config} {F F' : Filt}

/-- A valid filter whose histories are rewritten in place, and keep their lengths, is a filter still (R40). -/
theorem Filt.Wf.of_sameDesign (h : F.Wf c) (hv : F.valid = true) (hd : F.SameDesign F')
    (hin : F'.bufIn.Wf c.cap ∧ F'.bufIn.length c.cap = F.bufIn.length c.cap)
    (hout : F'.bufOut.Wf c.cap ∧ F'.bufOut.length c.cap = F.bufOut.length c.cap) : F'.Wf c := by
  obtain ⟨hb, ha, ho, hvalid⟩ := hd
  exact {
    order_le := ho ▸ h.order_le
    bufB_wf := hb ▸ h.bufB_wf
    bufA_wf := ha ▸ h.bufA_wf
    bufIn_wf := hin.1
    bufOut_wf := hout.1
    bufB_length := fun _ => by rw [hb, ho, h.bufB_length hv]
    bufA_length := fun _ => by rw [ha, ho, h.bufA_length hv]
    bufIn_length := fun _ => by rw [hin.2, ho, h.bufIn_length hv]
    bufOut_length := fun _ => by rw [hout.2, ho, h.bufOut_length hv]
    a0_ne_zero := fun _ => by rw [ha, h.a0_ne_zero hv]
    fresh_of_invalid := fun hf => by simp [hvalid, hv] at hf }

/-- The histories of a valid filter have room for one more word: its order is at most N - 3 (R7, R40). -/
theorem Filt.Wf.order_add_two_lt (h : F.Wf c) (hc : configLegal c = true) : F.order + 2 < c.cap := by
  have hcap := four_le_cap hc
  have ho := h.order_le
  unfold Config.maxOrder at ho
  omega

theorem filtValue_wf (hc : configLegal c = true) (h : F.Wf c) (hv : F.valid = true) (nan : Nat → Word) (x : Word) :
    (filtValue c.cap nan F x).2.Wf c := by
  have hroom := h.order_add_two_lt hc
  refine h.of_sameDesign hv (filtValue_sameDesign _ _ _ _) ⟨filtShift_wf h.bufIn_wf _, ?_⟩
    ⟨filtShift_wf h.bufOut_wf _, ?_⟩
  · exact filtShift_length h.bufIn_wf (h.bufIn_length hv ▸ hroom) _
  · exact filtShift_length h.bufOut_wf (h.bufOut_length hv ▸ hroom) _

theorem filtSetto_wf (h : F.Wf c) (hv : F.valid = true) (v : Word) : (filtSetto c.cap F v).Wf c :=
  h.of_sameDesign hv (filtSetto_sameDesign _ _ _) ⟨mapLive_wf h.bufIn_wf _ _, mapLive_length _ _⟩
    ⟨mapLive_wf h.bufOut_wf _ _, mapLive_length _ _⟩

theorem filtShiftby_wf (h : F.Wf c) (hv : F.valid = true) (nan : Nat → Word) (d : Word) :
    (filtShiftby c.cap nan F d).Wf c :=
  h.of_sameDesign hv (filtShiftby_sameDesign _ _ _ _) ⟨mapLive_wf h.bufIn_wf _ _, mapLive_length _ _⟩
    ⟨mapLive_wf h.bufOut_wf _ _, mapLive_length _ _⟩

/-- The filter an init makes meets the invariants: the order check leaves room in the rings, the `a_0` check gives a
leading coefficient that is not a zero (R171, R181). -/
theorem filtInit_wf {s : State} {o : Nat} (hc : configLegal s.cfg = true) (ho : o ≤ s.cfg.maxOrder)
    (ha : isZero (s.stagedA 0) = false) : (filtInit s o).Wf s.cfg := by
  have hcap := four_le_cap hc
  have hroom : o + 1 < s.cfg.cap := by unfold Config.maxOrder at ho; omega
  have hwf : ∀ v, (filled s.cfg.cap v (o + 1)).Wf s.cfg.cap := fun v => filled_wf (by omega) v _
  have hlen : ∀ v, (filled s.cfg.cap v (o + 1)).length s.cfg.cap = o + 1 := fun v => filled_length v hroom
  exact ⟨ho, hwf _, hwf _, hwf _, hwf _, fun _ => hlen _, fun _ => hlen _, fun _ => hlen _, fun _ => hlen _,
    fun _ => (congrArg isZero (filled_get s.stagedA (Nat.succ_pos o) hroom)).trans ha, nofun⟩

end Filters

end Sys2Proof.Machine
end

section
/-! SUPPORT. The invariants of the state, part by part: the fault record, the saved levels and the time, the state after
reset, and each update of the state (R34, R36, R40, R42 to R47). -/

namespace Sys2Proof.Machine

/-! ### The fault record -/

theorem ErrCode.byte_le (code : ErrCode) : code.byte.toNat ≤ 9 := by cases code <;> decide

/-- The bits of a STATUS word made of its fields: each field in its place, the reserved bits 0 (R34). -/
theorem getLsbD_statusWord (info code : Byte) (multi err : Bool) (i : Nat) :
    (statusWord info code multi err).getLsbD i =
      if i = 0 then err else if i = 1 then multi else if i < 8 then false else if i < 16 then code.getLsbD (i - 8)
      else if i < 24 then false else info.getLsbD (i - 24) := by
  simp only [statusWord, BitVec.getLsbD_append, BitVec.getLsbD_ofBool]
  grind

theorem statusCode_statusWord (info code : Byte) (multi err : Bool) :
    statusCode (statusWord info code multi err) = code := by
  apply BitVec.eq_of_getLsbD_eq
  intro i hi
  simp only [statusCode, BitVec.getLsbD_extractLsb', getLsbD_statusWord]
  grind

/-- The reserved bits of STATUS are bits 7:2 and 23:16 (R34). -/
theorem getLsbD_reservedBits : ∀ i < 32, (0x00FF00FC : Word).getLsbD i = true → 2 ≤ i ∧ i < 8 ∨ 16 ≤ i ∧ i < 24 := by
  decide

theorem statusWord_reserved (info code : Byte) (multi err : Bool) :
    statusWord info code multi err &&& 0x00FF00FC = 0 := by
  apply BitVec.eq_of_getLsbD_eq
  intro i hi
  have hmask := getLsbD_reservedBits i hi
  simp only [BitVec.getLsbD_and, getLsbD_statusWord]
  grind

/-- MULTI is outside the reserved bits and outside CODE (R34). -/
theorem statusWf_setMulti {w : Word} (h : StatusWf w) (herr : statusErr w = true) : StatusWf (w ||| 2) := by
  obtain ⟨hreserved, hcode, -⟩ := h
  have hkeep : statusCode (w ||| 2) = statusCode w := by
    rw [statusCode, BitVec.extractLsb'_or, show (2 : Word).extractLsb' 8 8 = 0 by decide, statusCode]
    simp
  have herr' : statusErr (w ||| 2) = true := by
    rw [statusErr] at herr ⊢
    simp [herr]
  refine ⟨?_, hkeep ▸ hcode, fun hclear => absurd (herr'.symm.trans hclear) Bool.noConfusion⟩
  rw [BitVec.and_comm, BitVec.and_or_distrib_left, BitVec.and_comm, hreserved]
  decide

/-- A fault keeps STATUS a word the block can hold (R331, R332). -/
theorem statusWf_recordFault {w : Word} (h : StatusWf w) (code : ErrCode) (info : Byte) :
    StatusWf (recordFault code.byte info w) := by
  have herr := statusErr_recordFault code.byte info w
  unfold recordFault at herr ⊢
  split
  · next hset => exact statusWf_setMulti h hset
  · next hclear =>
    rw [if_neg hclear] at herr
    exact ⟨statusWord_reserved _ _ _ _, (statusCode_statusWord _ _ _ _).symm ▸ code.byte_le,
      fun hclear => absurd (herr.symm.trans hclear) Bool.noConfusion⟩

theorem statusWf_zero : StatusWf 0 := by decide

/-! ### The saved levels -/

theorem Quad.save_wf (q : Quad) (x b : Bool) : (q.save x b).Wf := by simp [Quad.Wf, Quad.save]

/-- A sample keeps the saved levels in agreement: it saves three that agree, or none (R44, R211). -/
theorem qdSample_wf {q : Quad} (h : q.Wf) (saveNoEdge x b : Bool) : (qdSample saveNoEdge q x b).Wf := by
  unfold qdSample
  split
  · exact q.save_wf x b
  · split
    · exact q.save_wf x b
    · exact h

theorem Quad.fresh_wf (scale : Word) (p : PinSample) : (Quad.fresh scale p).Wf := by simp [Quad.Wf, Quad.fresh]

/-! ### The time -/

/-- A tick keeps the fine count below the ticks of a millisecond (R45, R291). -/
theorem TimePoint.tick_fine_lt {F : Nat} {t : TimePoint} (h : t.fine.toNat < F) : (t.tick F).fine.toNat < F := by
  unfold TimePoint.tick
  split
  · simpa using Nat.zero_lt_of_lt h
  · have hle : (t.fine + 1).toNat ≤ t.fine.toNat + 1 := by rw [BitVec.toNat_add]; exact Nat.mod_le _ _
    show (t.fine + 1).toNat < F
    omega

/-! ### The state after reset -/

/-- The reset state of a legal configuration meets the invariants (R47). -/
theorem resetOf_inv {c : Config} (hc : configLegal c = true) (n : Nat) : (State.resetOf c n).Inv where
  cfg_legal := hc
  rb_length := List.length_replicate
  rb_wf B hB := List.eq_of_mem_replicate hB ▸ Ring.fresh_wf (cap_pos_of_legal hc)
  stageB_length := List.length_replicate
  stageA_length := List.length_replicate
  filt_length := List.length_replicate
  filt_wf F hF := List.eq_of_mem_replicate hF ▸ Filt.fresh_wf hc
  ctrl_length := List.length_replicate
  ctrl_filter_valid i hi hv := by
    have hfresh : (State.resetOf c n).controller i = Ctrl.fresh := by
      simp [State.controller, State.resetOf, show i < c.numCtrl from hi]
    simp [hfresh, Ctrl.fresh] at hv
  qdLeft_wf := Quad.fresh_wf _ _
  qdRight_wf := Quad.fresh_wf _ _
  time_fine_lt := ticksPerMs_pos hc
  flags_length := List.length_replicate
  flags_fine_lt G hG := List.eq_of_mem_replicate hG ▸ ticksPerMs_pos hc
  status_wf := statusWf_zero

section Updates

variable {s : State}

theorem applyReset_inv (hc : configLegal s.cfg = true) : s.applyReset.Inv := { resetOf_inv hc s.draws with }

theorem releaseReset_inv (h : s.Inv) : s.releaseReset.Inv := by
  obtain ⟨-, e⟩ | ⟨-, e⟩ := s.releaseReset_cases <;> rw [e]
  · exact { applyReset_inv h.cfg_legal with }
  · exact h

/-! ### The elements of a state that meets the invariants -/

/-- An element read with a default is an element of the list, if its number is in range. -/
theorem getD_mem {α : Type} {l : List α} {i : Nat} (h : i < l.length) (d : α) : l.getD i d ∈ l := by
  rw [List.getD_eq_getElem?_getD, List.getElem?_eq_getElem h, Option.getD_some]
  exact List.getElem_mem h

theorem State.Inv.cap_pos (h : s.Inv) : 0 < s.cfg.cap := cap_pos_of_legal h.cfg_legal

/-- Controller `c` wraps filter `c` (R7, R42). -/
theorem State.Inv.lt_numFilt (h : s.Inv) {c : Nat} (hc : c < s.cfg.numCtrl) : c < s.cfg.numFilt :=
  Nat.lt_of_lt_of_le hc (numCtrl_le_numFilt h.cfg_legal)

theorem State.Inv.ring_wf (h : s.Inv) {r : Nat} (hr : r < s.cfg.numRb) : (s.ring r).Wf s.cfg.cap :=
  h.rb_wf _ (getD_mem (h.rb_length ▸ hr) _)

theorem State.Inv.filter_wf (h : s.Inv) {f : Nat} (hf : f < s.cfg.numFilt) : (s.filter f).Wf s.cfg :=
  h.filt_wf _ (getD_mem (h.filt_length ▸ hf) _)

theorem State.Inv.flag_fine_lt (h : s.Inv) {g : Nat} (hg : g < s.cfg.numFlag) :
    (s.flag g).last.fine.toNat < s.cfg.ticksPerMs :=
  h.flags_fine_lt _ (getD_mem (h.flags_length ▸ hg) _)

theorem State.Inv.quad_wf (h : s.Inv) (sd : Side) : (s.quad sd).Wf := by
  cases sd with
  | left => exact h.qdLeft_wf
  | right => exact h.qdRight_wf

/-! ### Each update keeps the invariants -/

/-- A list with one element written holds nothing but that element and its old ones. -/
theorem forall_mem_set {α : Type} {p : α → Prop} {l : List α} (h : ∀ x ∈ l, p x) {y : α} (hy : p y) (i : Nat) :
    ∀ x ∈ l.set i y, p x := by
  intro x hx
  obtain hx | rfl := List.mem_or_eq_of_mem_set hx
  · exact h x hx
  · exact hy

/-- A filter written keeps every other, also where there is no such filter. -/
theorem State.filter_setFilter_of_ne {f f' : Nat} (h : f' ≠ f) (F : Filt) :
    (s.setFilter f F).filter f' = s.filter f' := by
  simp [State.filter, State.setFilter, List.getElem?_set_ne (Ne.symm h)]

theorem State.controller_setController_of_ne {c c' : Nat} (h : c' ≠ c) (C : Ctrl) :
    (s.setController c C).controller c' = s.controller c' := by
  simp [State.controller, State.setController, List.getElem?_set_ne (Ne.symm h)]

theorem State.Inv.setRes0 (h : s.Inv) (v : Word) : (s.setRes0 v).Inv := { h with }

theorem State.Inv.setRes1 (h : s.Inv) (v : Word) : (s.setRes1 v).Inv := { h with }

theorem State.Inv.spend (h : s.Inv) (k : Nat) : (s.spend k).Inv := { h with }

theorem State.Inv.deliver (h : s.Inv) (v : Word) : (s.deliver v).Inv := { h with }

theorem State.Inv.raise (h : s.Inv) (code : ErrCode) (info : Byte) : (s.raise code info).Inv :=
  { h with status_wf := statusWf_recordFault h.status_wf code info }

theorem State.Inv.clearFaults (h : s.Inv) (w : Word) : (s.clearFaults w).Inv := by
  unfold State.clearFaults
  split
  · exact { h with status_wf := statusWf_zero }
  · exact h

theorem State.Inv.readOut (h : s.Inv) (reg : Reg) : (s.readOut reg).Inv := by
  unfold State.readOut
  split
  · exact { h with }
  · exact h.deliver _

theorem State.Inv.setRing (h : s.Inv) (r : Nat) {B : Ring} (hB : B.Wf s.cfg.cap) : (s.setRing r B).Inv :=
  { h with
    rb_length := List.length_set.trans h.rb_length
    rb_wf := forall_mem_set h.rb_wf hB r }

theorem State.Inv.stage (h : s.Inv) (bank : Bank) (i : Nat) (v : Word) : (s.stage bank i v).Inv := by
  cases bank with
  | numer => exact { h with stageB_length := List.length_set.trans h.stageB_length }
  | denom => exact { h with stageA_length := List.length_set.trans h.stageA_length }

theorem State.Inv.setQuad (h : s.Inv) (sd : Side) {Q : Quad} (hQ : Q.Wf) : (s.setQuad sd Q).Inv := by
  cases sd with
  | left => exact { h with qdLeft_wf := hQ }
  | right => exact { h with qdRight_wf := hQ }

theorem State.Inv.setFlag (h : s.Inv) (g : Nat) {G : Flag} (hG : G.last.fine.toNat < s.cfg.ticksPerMs) :
    (s.setFlag g G).Inv :=
  { h with
    flags_length := List.length_set.trans h.flags_length
    flags_fine_lt := forall_mem_set h.flags_fine_lt hG g }

/-- A filter may be written if it is not made invalid under a controller (R42). -/
theorem State.Inv.setFilter (h : s.Inv) (f : Nat) {F : Filt} (hF : F.Wf s.cfg) (hv : F.valid = true) :
    (s.setFilter f F).Inv :=
  { h with
    filt_length := List.length_set.trans h.filt_length
    filt_wf := forall_mem_set h.filt_wf hF f
    ctrl_filter_valid := fun c hc hcv => by
      by_cases e : c = f
      · subst e
        rwa [State.filter_setFilter s c c F (h.filt_length ▸ h.lt_numFilt hc), if_pos rfl]
      · rw [State.filter_setFilter_of_ne e]
        exact h.ctrl_filter_valid c hc hcv }

/-- A controller may be written if its filter is valid, or if it is not made valid (R42). -/
theorem State.Inv.setController (h : s.Inv) (c : Nat) {C : Ctrl} (hC : C.valid = true → (s.filter c).valid = true) :
    (s.setController c C).Inv :=
  { h with
    ctrl_length := List.length_set.trans h.ctrl_length
    ctrl_filter_valid := fun c' hc' hcv => by
      by_cases e : c' = c
      · subst e
        rw [State.controller_setController s c' c' C (h.ctrl_length ▸ hc'), if_pos rfl] at hcv
        exact hC hcv
      · rw [State.controller_setController_of_ne e] at hcv
        exact h.ctrl_filter_valid c' hc' hcv }

theorem State.Inv.sampleSide (h : s.Inv) (sd : Side) (x b : Bool) : (s.sampleSide sd x b).Inv :=
  h.setQuad sd (qdSample_wf (h.quad_wf sd) _ x b)

theorem State.Inv.tick (h : s.Inv) : ({ s with time := s.time.tick s.cfg.ticksPerMs } : State).Inv :=
  { h with time_fine_lt := TimePoint.tick_fine_lt h.time_fine_lt }

end Updates

end Sys2Proof.Machine
end

section
/-! SUPPORT. What a command can do to the state, said once for all commands but SOFT_RESET, and what it keeps: the
invariants, the bytes of the window, and the coefficients of the filters. -/

namespace Sys2Proof.Machine

/-! ### The effects of the commands -/

/-- `Effect i s t`: the command `i` may take `s` to `t`, by a fault recorded, or by one unit's change, with results and
draws. What the command writes meets the invariants whenever `s` does. SOFT_RESET is no such change. -/
inductive Effect (i : Instr) (s : State) : State → Prop
  | unchanged : Effect i s s
  | fault (code : ErrCode) (info : Byte) : Effect i s (s.raise code info)
  | ring (r : Nat) {B : Ring} (hB : s.Inv → B.Wf s.cfg.cap) : Effect i s (s.setRing r B)
  | staged (bank : Bank) (j : Nat) (v : Word) : Effect i s (s.stage bank j v)
  | filtInit (f o : Nat) (hi : i = .filtInit f o) (ho : o ≤ s.cfg.maxOrder) (ha : isZero (s.stagedA 0) = false) :
      Effect i s (s.setFilter f (filtInit s o))
  | ctrlInit (c o : Nat) (m : SelRule) (hi : i = .ctrlInit c o m) (hc : c < s.cfg.numCtrl) (ho : o ≤ s.cfg.maxOrder)
      (ha : isZero (s.stagedA 0) = false) :
      Effect i s ((s.setFilter c (filtInit s o)).setController c (Ctrl.init s.arg0 s.arg1 m))
  | filter (f : Nat) {F : Filt} (hd : (s.filter f).SameDesign F) (hv : s.Inv → (s.filter f).valid = true)
      (hF : s.Inv → F.Wf s.cfg) : Effect i s (s.setFilter f F)
  | controller (c : Nat) {C : Ctrl} (hv : s.Inv → (s.filter c).valid = true) : Effect i s (s.setController c C)
  | quad (sd : Side) {Q : Quad} (hQ : s.Inv → Q.Wf) : Effect i s (s.setQuad sd Q)
  | flag (g : Nat) {G : Flag} (hG : s.Inv → G.last.fine.toNat < s.cfg.ticksPerMs) : Effect i s (s.setFlag g G)
  | res0 {t : State} (h : Effect i s t) (v : Word) : Effect i s (t.setRes0 v)
  | res1 {t : State} (h : Effect i s t) (v : Word) : Effect i s (t.setRes1 v)
  | spent {t : State} (h : Effect i s t) (k : Nat) : Effect i s (t.spend k)

/-- The outcome `o`, if it goes on, is an effect of the command. -/
def Yields (i : Instr) (s : State) (o : Out) : Prop := ∀ t, o = .next t → Effect i s t

section Yields

variable {i : Instr} {s t : State} {opc : Byte} {n : Nat} {k : Out}

theorem Yields.next (h : Effect i s t) : Yields i s (.next t) := fun _ e => next_inj.1 e ▸ h

theorem fail_yields (code : ErrCode) (opc : Byte) : Yields i s (fail code opc s) := .next (.fault code opc)

theorem Yields.ite {p : Prop} [Decidable p] {k' : Out} (h : p → Yields i s k) (h' : ¬ p → Yields i s k') :
    Yields i s (if p then k else k') := by
  split
  · exact h ‹_›
  · exact h' ‹_›

theorem onRing_yields (h : n < s.cfg.numRb → Yields i s k) : Yields i s (onRing opc n s k) :=
  .ite h fun _ => fail_yields _ _

theorem onFilter_yields (h : n < s.cfg.numFilt → Yields i s k) : Yields i s (onFilter opc n s k) :=
  .ite h fun _ => fail_yields _ _

theorem onController_yields (h : n < s.cfg.numCtrl → Yields i s k) : Yields i s (onController opc n s k) :=
  .ite h fun _ => fail_yields _ _

theorem onFlag_yields (h : n < s.cfg.numFlag → Yields i s k) : Yields i s (onFlag opc n s k) :=
  .ite h fun _ => fail_yields _ _

theorem onSide_yields {k : Side → Out} (h : ∀ sd, Yields i s (k sd)) : Yields i s (onSide opc n s k) := by
  obtain ⟨sd, -, e⟩ | ⟨-, e⟩ := onSide_cases opc n s k <;> rw [e]
  · exact h sd
  · exact fail_yields _ _

theorem onValidFilter_yields (h : n < s.cfg.numFilt → (s.filter n).valid = true → Yields i s k) :
    Yields i s (onValidFilter opc n s k) :=
  onFilter_yields fun hn => .ite (h hn) fun _ => fail_yields _ _

theorem onValidController_yields (h : n < s.cfg.numCtrl → (s.controller n).valid = true → Yields i s k) :
    Yields i s (onValidController opc n s k) :=
  onController_yields fun hn => .ite (h hn) fun _ => fail_yields _ _

theorem ifInitable_yields (h : n ≤ s.cfg.maxOrder → isZero (s.stagedA 0) = false → Yields i s k) :
    Yields i s (ifInitable opc n s k) :=
  .ite (fun _ => fail_yields _ _) fun ho =>
    .ite (fun _ => fail_yields _ _) fun ha => h (Nat.le_of_not_lt ho) (Bool.eq_false_iff.2 ha)

/-! ### The commands, one by one -/

/-- FILT_READ only delivers a result, or faults (R186). -/
theorem execFiltRead_yields (f j sel : Nat) : Yields i s (execFiltRead f j sel s) :=
  onFilter_yields fun _ => .ite (fun _ => fail_yields _ _) fun _ =>
    .ite (fun _ => .ite (fun _ => .next (.res0 .unchanged _)) fun _ => fail_yields _ _) fun _ =>
      .ite (fun _ => fail_yields _ _) fun _ =>
        .ite (fun _ => fail_yields _ _) fun _ => .next (.res0 .unchanged _)

/-- CTRL_READ only delivers a result, or faults (R267). -/
theorem execCtrlRead_yields (c sel : Nat) : Yields i s (execCtrlRead c sel s) := by
  refine onController_yields fun _ => ?_
  match sel with
  | 0 | 1 | 2 | 3 | 4 => exact .next (.res0 .unchanged _)
  | _ + 5 => exact fail_yields _ _

/-- FLAG_READ only delivers a result, or faults (R305). -/
theorem execFlagRead_yields (g sel : Nat) : Yields i s (execFlagRead g sel s) := by
  refine onFlag_yields fun _ => ?_
  match sel with
  | 0 | 1 | 2 | 3 | 4 => exact .next (.res0 .unchanged _)
  | _ + 5 => exact fail_yields _ _

/-- A valid filter that takes a new word is still one, with the coefficients it had (R172). -/
theorem Effect.filtValue {f : Nat} (hf : s.Inv → f < s.cfg.numFilt ∧ (s.filter f).valid = true) (nan : Nat → Word)
    (x : Word) : Effect i s (s.setFilter f (Machine.filtValue s.cfg.cap nan (s.filter f) x).2) :=
  .filter f (filtValue_sameDesign _ _ _ _) (fun h => (hf h).2) fun h =>
    filtValue_wf h.cfg_legal (h.filter_wf (hf h).1) (hf h).2 _ _

/-- The same with its histories set to one word (R175). -/
theorem Effect.filtSetto {f : Nat} (hf : s.Inv → f < s.cfg.numFilt ∧ (s.filter f).valid = true) (v : Word) :
    Effect i s (s.setFilter f (Machine.filtSetto s.cfg.cap (s.filter f) v)) :=
  .filter f (filtSetto_sameDesign _ _ _) (fun h => (hf h).2) fun h => filtSetto_wf (h.filter_wf (hf h).1) (hf h).2 _

/-- The same with its histories shifted by one amount (R176). -/
theorem Effect.filtShiftby {f : Nat} (hf : s.Inv → f < s.cfg.numFilt ∧ (s.filter f).valid = true) (nan : Nat → Word)
    (d : Word) : Effect i s (s.setFilter f (Machine.filtShiftby s.cfg.cap nan (s.filter f) d)) :=
  .filter f (filtShiftby_sameDesign _ _ _ _) (fun h => (hf h).2) fun h =>
    filtShiftby_wf (h.filter_wf (hf h).1) (hf h).2 _ _

/-- The filter of a valid controller may be operated (R42). -/
theorem State.Inv.wrapped (h : s.Inv) {c : Nat} (hc : c < s.cfg.numCtrl) (hv : (s.controller c).valid = true) :
    c < s.cfg.numFilt ∧ (s.filter c).valid = true :=
  ⟨h.lt_numFilt hc, h.ctrl_filter_valid c hc hv⟩

/-- The levels of a pin draw saved are in agreement (R216). -/
theorem Effect.initSide (sd : Side) : Effect i s (s.initSide sd) := by
  refine .spent (.quad sd fun _ => ?_) 1
  exact (s.quad sd).save_wf _ _

/-- FLAG_DONE leaves the flag its last time, or takes the time of now (R304). -/
theorem Effect.flagDone {g : Nat} (hg : g < s.cfg.numFlag) :
    Effect i s (s.setFlag g (if fgt (s.flag g).duration 0 then { s.flag g with last := s.time }
      else { s.flag g with active := false })) := by
  refine .flag g fun h => ?_
  split
  · exact h.time_fine_lt
  · exact h.flag_fine_lt hg

/-- Every command but SOFT_RESET goes on with one of the effects. -/
theorem exec_yields (i : Instr) (hi : i ≠ .softReset) (s : State) : Yields i s (exec i s) := by
  cases i with
  | nop => exact .next .unchanged
  | softReset => exact absurd rfl hi
  | rbInit r => exact onRing_yields fun _ => .next (.ring r fun h => Ring.fresh_wf h.cap_pos)
  | rbPushBack r => exact onRing_yields fun hr => .next (.ring r fun h => Ring.pushBack_wf (h.ring_wf hr) _)
  | rbPushFront r => exact onRing_yields fun hr => .next (.ring r fun h => Ring.pushFront_wf (h.ring_wf hr) _)
  | rbPopBack r => exact onRing_yields fun hr => .next (.res0 (.ring r fun h => Ring.popBack_wf (h.ring_wf hr)) _)
  | rbPopFront r => exact onRing_yields fun hr => .next (.res0 (.ring r fun h => Ring.popFront_wf (h.ring_wf hr)) _)
  | rbGet r j =>
    exact onRing_yields fun _ => .ite (fun _ => .next (.res0 .unchanged _)) fun _ => fail_yields _ _
  | rbSet r j =>
    exact onRing_yields fun hr =>
      .ite (fun _ => .next (.ring r fun h => Ring.put_wf (h.ring_wf hr) _ _)) fun _ => fail_yields _ _
  | rbLength r => exact onRing_yields fun _ => .next (.res0 .unchanged _)
  | coefWr bank j => exact .ite (fun _ => fail_yields _ _) fun _ => .next (.staged bank j _)
  | filtInit f o =>
    exact onFilter_yields fun _ => ifInitable_yields fun ho ha => .next (.filtInit f o rfl ho ha)
  | filtValue f =>
    exact onValidFilter_yields fun hf hv => .next (.spent (.res0 (.filtValue (fun _ => ⟨hf, hv⟩) _ _) _) _)
  | filtLast f => exact onValidFilter_yields fun _ _ => .next (.res0 .unchanged _)
  | filtSetto f => exact onValidFilter_yields fun hf hv => .next (.filtSetto (fun _ => ⟨hf, hv⟩) _)
  | filtShiftby f =>
    exact onValidFilter_yields fun hf hv => .next (.spent (.filtShiftby (fun _ => ⟨hf, hv⟩) _ _) _)
  | filtRead f j sel => exact execFiltRead_yields f j sel
  | ctrlInit c o m =>
    exact onController_yields fun hc => ifInitable_yields fun ho ha => .next (.ctrlInit c o m rfl hc ho ha)
  | ctrlSetPos c =>
    exact onValidController_yields fun hc hv => .next (.spent (.controller c fun h => (h.wrapped hc hv).2) _)
  | ctrlSetVel c =>
    exact onValidController_yields fun hc hv => .next (.controller c fun h => (h.wrapped hc hv).2)
  | ctrlUpdate c =>
    exact onValidController_yields fun hc hv =>
      .next (.spent (.res1 (.res0 (.filtValue (fun h => h.wrapped hc hv) _ _) _) _) _)
  | ctrlLast c => exact onValidController_yields fun _ _ => .next (.res0 .unchanged _)
  | ctrlSetto c => exact onValidController_yields fun hc hv => .next (.filtSetto (fun h => h.wrapped hc hv) _)
  | ctrlShiftby c =>
    exact onValidController_yields fun hc hv => .next (.spent (.filtShiftby (fun h => h.wrapped hc hv) _ _) _)
  | ctrlRead c sel => exact execCtrlRead_yields c sel
  | qdInit n => exact onSide_yields fun sd => .next (.initSide sd)
  | qdRead n => exact onSide_yields fun _ => .next (.res0 .unchanged _)
  | qdReadBoth => exact .next (.res1 (.res0 .unchanged _) _)
  | qdAngle n => exact onSide_yields fun _ => .next (.spent (.res0 .unchanged _) _)
  | qdSetScale n => exact onSide_yields fun sd => .next (.quad sd fun h => h.quad_wf sd)
  | qdState n => exact onSide_yields fun _ => .next (.res0 .unchanged _)
  | qdInject n x b => exact onSide_yields fun sd => .next (.quad sd fun h => qdSample_wf (h.quad_wf sd) _ x b)
  | timeRead => exact .next (.res1 (.res0 .unchanged _) _)
  | flagArm g subcmd cmd => exact onFlag_yields fun hg => .next (.flag g fun h => h.flag_fine_lt hg)
  | flagCancel g => exact onFlag_yields fun hg => .next (.flag g fun h => h.flag_fine_lt hg)
  | flagPoll g => exact onFlag_yields fun _ => .next (.res0 .unchanged _)
  | flagDone g => exact onFlag_yields fun hg => .next (.flagDone hg)
  | flagRead g sel => exact execFlagRead_yields g sel
  | flagDefault g => exact onFlag_yields fun _ => .next (.flag g fun h => ticksPerMs_pos h.cfg_legal)

/-- Every command but SOFT_RESET has one of the effects. -/
theorem exec_effect (hi : i ≠ .softReset) (h : exec i s = .next t) : Effect i s t := exec_yields i hi s t h

end Yields

/-! ### What every effect keeps -/

section Keeps

variable {i : Instr} {s t : State}

/-- Every effect keeps the invariants. -/
theorem Effect.inv (h : Effect i s t) (hs : s.Inv) : t.Inv := by
  induction h with
  | unchanged => exact hs
  | fault code info => exact hs.raise code info
  | ring r hB => exact hs.setRing r (hB hs)
  | staged bank j v => exact hs.stage bank j v
  | filtInit f o _ ho ha => exact hs.setFilter f (filtInit_wf hs.cfg_legal ho ha) rfl
  | ctrlInit c o m _ hc ho ha =>
    have hinit := hs.setFilter c (filtInit_wf hs.cfg_legal ho ha) rfl
    refine hinit.setController c fun _ => ?_
    rw [State.filter_setFilter s c c _ (hs.filt_length ▸ hs.lt_numFilt hc), if_pos rfl]
    rfl
  | filter f hd hv hF => exact hs.setFilter f (hF hs) (hd.valid.trans (hv hs))
  | controller c hv => exact hs.setController c fun _ => hv hs
  | quad sd hQ => exact hs.setQuad sd (hQ hs)
  | flag g hG => exact hs.setFlag g (hG hs)
  | res0 _ v ih => exact ih.setRes0 v
  | res1 _ v ih => exact ih.setRes1 v
  | spent _ k ih => exact ih.spend k

/-- What no command but SOFT_RESET touches: the configuration, the reset input, the environment's side, the operands and
the time (R31, R45, R79). -/
structure State.SameSurroundings (s t : State) : Prop where
  cfg : t.cfg = s.cfg
  resetHeld : t.resetHeld = s.resetHeld
  agenda : t.agenda = s.agenda
  observed : t.observed = s.observed
  readData : t.readData = s.readData
  arg0 : t.arg0 = s.arg0
  arg1 : t.arg1 = s.arg1
  time : t.time = s.time

theorem Effect.sameSurroundings (h : Effect i s t) : s.SameSurroundings t := by
  induction h with
  | unchanged | fault | ring | filtInit | ctrlInit | filter | controller | flag =>
    exact ⟨rfl, rfl, rfl, rfl, rfl, rfl, rfl, rfl⟩
  | staged bank => constructor <;> simp
  | quad sd => constructor <;> simp
  | res0 _ _ ih | res1 _ _ ih | spent _ _ ih => exact { ih with }

/-- A command that makes neither filter `f` nor its controller anew keeps the filter's design (R40). -/
theorem Effect.sameDesign (h : Effect i s t) {f : Nat} (hf : f < s.filt.length) (hfilt : ∀ o, i ≠ .filtInit f o)
    (hctrl : ∀ o m, i ≠ .ctrlInit f o m) : (s.filter f).SameDesign (t.filter f) := by
  have hrefl : (s.filter f).SameDesign (s.filter f) := ⟨rfl, rfl, rfl, rfl⟩
  induction h with
  | unchanged | fault | ring | controller | flag => exact hrefl
  | staged bank => simpa [State.filter] using hrefl
  | quad sd => simpa [State.filter] using hrefl
  | filtInit g o hi =>
    have hne : f ≠ g := by rintro rfl; exact hfilt o hi
    rwa [State.filter_setFilter_of_ne hne]
  | ctrlInit c o m hi =>
    have hne : f ≠ c := by rintro rfl; exact hctrl o m hi
    show (s.filter f).SameDesign ((s.setFilter c _).filter f)
    rwa [State.filter_setFilter_of_ne hne]
  | filter g hd =>
    by_cases e : f = g
    · subst e
      rwa [State.filter_setFilter s f f _ hf, if_pos rfl]
    · rwa [State.filter_setFilter_of_ne e]
  | res0 _ _ ih | res1 _ _ ih | spent _ _ ih => exact ih

end Keeps

/-! ### The bytes of the window -/

/-- The offsets of the registers RES0, RES1 and STATUS (R72). -/
theorem regAt_results {off size : Nat} {reg : Reg} (h : regAt off size = some reg)
    (hreg : reg = .res0 ∨ reg = .res1 ∨ reg = .status) : 0x0C ≤ off ∧ off < 0x18 := by
  unfold regAt at h
  split at h
  · obtain rfl | rfl | rfl := hreg <;> split at h <;> simp_all
  · cases h

/-- The bytes outside RES0, RES1 and STATUS are those of the operands and the configuration (R72, R74). -/
theorem windowByte_congr {s t : State} (hcfg : t.cfg = s.cfg) (harg0 : t.arg0 = s.arg0) (harg1 : t.arg1 = s.arg1)
    {off : Nat} (hoff : off < 0x0C ∨ 0x18 ≤ off) : t.windowByte off = s.windowByte off := by
  unfold State.windowByte
  cases h : regAt (off / 4 * 4) 4 with
  | none => rfl
  | some reg =>
    have hout := regAt_results h
    cases reg with
    | cmd => rfl
    | arg0 => simp [State.readReg, harg0]
    | arg1 => simp [State.readReg, harg1]
    | res0 | res1 | status => exact absurd (hout (by simp)) (by omega)
    | param0 | param1 => simp [State.readReg, hcfg]

/-! ### Every step keeps the invariants -/

section Steps

variable {s t : State}

theorem exec_inv {i : Instr} (hs : s.Inv) (h : exec i s = .next t) : t.Inv := by
  by_cases hi : i = .softReset
  · subst hi
    exact next_inj.1 h ▸ applyReset_inv hs.cfg_legal
  · exact (exec_effect hi h).inv hs

theorem runWord_inv {w : Word} (hs : s.Inv) (h : runWord w s = .next t) : t.Inv := by
  obtain ⟨i, -, e⟩ | ⟨err, -, e⟩ := runWord_cases w s <;> rw [e] at h
  · exact exec_inv hs h
  · exact next_inj.1 h ▸ hs.raise _ _

theorem hostRead_inv {addr size : Nat} (hs : s.Inv) (h : hostRead addr size s = .next t) : t.Inv := by
  obtain ⟨reg, -, -, e⟩ | ⟨-, -, e⟩ | ⟨-, e⟩ := hostRead_cases addr size s <;> rw [e] at h
  · exact next_inj.1 h ▸ hs.readOut reg
  · exact next_inj.1 h ▸ (hs.raise _ _).deliver 0
  · cases h

theorem hostWrite_inv {addr size : Nat} {v : Word} (hs : s.Inv) (h : hostWrite runWord addr size v s = .next t) :
    t.Inv := by
  obtain e | e | e | e | e | e := hostWrite_cases runWord addr size v s <;> rw [e] at h
  · exact runWord_inv hs h
  · exact next_inj.1 h ▸ { hs with }
  · exact next_inj.1 h ▸ { hs with }
  · exact next_inj.1 h ▸ hs.clearFaults v
  · exact next_inj.1 h ▸ hs.raise _ _
  · cases h

theorem acceptAccess_inv {addr : Nat} {k : Out} (h : acceptAccess addr s k = .next t) (hk : k = .next t → t.Inv) :
    t.Inv := by
  obtain ⟨-, e⟩ | ⟨-, e⟩ := acceptAccess_cases addr s k <;> rw [e] at h
  · exact hk h
  · cases h

theorem agentStep_inv {u : State} (hs : s.Inv) (hu : u.Inv) (h : agentStep s u = .next t) : t.Inv := by
  obtain ⟨-, e⟩ | ⟨-, e⟩ := agentStep_cases s u <;> rw [e] at h
  · exact next_inj.1 h ▸ hu
  · exact next_inj.1 h ▸ hs

/-- Every event keeps the invariants (R5, R370). -/
theorem perform_inv {e : Event} (hs : s.Inv) (h : perform runWord e s = .next t) : t.Inv := by
  cases e with
  | read addr size => exact acceptAccess_inv h (hostRead_inv hs)
  | write addr size v => exact acceptAccess_inv h (hostWrite_inv hs)
  | sample sd x b => exact agentStep_inv hs (hs.sampleSide sd x b) h
  | tick => exact agentStep_inv hs hs.tick h
  | resetAssert => exact next_inj.1 h ▸ { hs with }
  | resetRelease => exact next_inj.1 h ▸ releaseReset_inv hs

end Steps

/-! ### A controller's filter -/

theorem onValidFilter_of_valid {s : State} {f : Nat} (hf : f < s.cfg.numFilt) (hv : (s.filter f).valid = true)
    (opc : Byte) (k : Out) : onValidFilter opc f s k = k := by
  simp [onValidFilter, onFilter, hf, hv]

theorem onValidController_of_valid {s : State} {c : Nat} (hc : c < s.cfg.numCtrl) (hv : (s.controller c).valid = true)
    (opc : Byte) (k : Out) : onValidController opc c s k = k := by
  simp [onValidController, onController, hc, hv]

end Sys2Proof.Machine
end

section
/-! SUPPORT. The Gray-code table of the decoder (R212), and the two outcomes of a sample (R211). -/

namespace Sys2Proof.Machine

/-- The rows that count up, as saved A and B and sampled A and B. -/
def grayUp : List (Bool × Bool × Bool × Bool) :=
  [(false, false, true, false), (true, false, true, true), (true, true, false, true), (false, true, false, false)]

/-- The rows that count down. -/
def grayDown : List (Bool × Bool × Bool × Bool) :=
  [(false, false, false, true), (false, true, true, true), (true, true, true, false), (true, false, false, false)]

section Gray

variable {aLast bLast a b : Bool}

/-- On a row that counts up the XOR signal has an edge, and the change of R211 is +1. -/
theorem edge_of_grayUp : (aLast, bLast, a, b) ∈ grayUp →
    (a ^^ b) ≠ (aLast ^^ bLast) ∧ bitInt (a ^^ bLast) - bitInt (aLast ^^ b) = 1 := by
  revert aLast bLast a b; decide

/-- On a row that counts down the XOR signal has an edge, and the change of R211 is -1. -/
theorem edge_of_grayDown : (aLast, bLast, a, b) ∈ grayDown →
    (a ^^ b) ≠ (aLast ^^ bLast) ∧ bitInt (a ^^ bLast) - bitInt (aLast ^^ b) = -1 := by
  revert aLast bLast a b; decide

/-- On every other row the XOR signal has no edge. -/
theorem no_edge_of_not_gray : (aLast, bLast, a, b) ∉ grayUp → (aLast, bLast, a, b) ∉ grayDown →
    (a ^^ b) = (aLast ^^ bLast) := by
  revert aLast bLast a b; decide

end Gray

section Samples

variable {q : Quad} {a b : Bool}

/-- A sample with an edge saves its levels and counts the change of R211, modulo 2^32. -/
theorem qdSample_of_edge (save : Bool) (h : (a ^^ b) ≠ q.xLast) : qdSample save q (a ^^ b) b =
    { q with
      aLast := a, bLast := b, xLast := a ^^ b
      count := q.count + BitVec.ofInt 32 (bitInt (a ^^ q.bLast) - bitInt (q.aLast ^^ b)) } := by
  simp [qdSample, if_pos h, Quad.save, edgeDelta, BitVec.ofInt_add]

/-- A sample with no edge counts nothing, and saves its levels only if it is asked to (R211). -/
theorem qdSample_of_no_edge (save : Bool) (h : (a ^^ b) = q.xLast) : qdSample save q (a ^^ b) b =
    if save then { q with aLast := a, bLast := b } else q := by
  rw [qdSample, if_neg (not_not.2 h), Quad.save, Bool.xor_assoc, Bool.xor_self, Bool.xor_false, h]

end Samples

end Sys2Proof.Machine
end

section
/-! SUPPORT. The statements about the state: its invariants, what commands keep of it, and reset. -/

namespace Sys2Proof.Proofs

open Sys2Proof Sys2Proof.Machine Sys2Proof.Claims

/-- Settles O21: the block waits, or an event happens, and every event keeps the invariants. -/
theorem stepKeepsTheInvariant : Obligations.StepKeepsTheInvariant := by
  intro s t hs hstep
  obtain ⟨-, ⟨-, rfl⟩ | ⟨e, rest, -, hperform⟩⟩ := step_next hstep
  · exact hs
  · exact perform_inv (s := { s with agenda := rest }) { hs with } hperform

/-- Settles O18: SOFT_RESET keeps the environment's side, and every other effect the operands and the time too. -/
theorem commandsKeepOperandsAndTime : Obligations.CommandsKeepOperandsAndTime := by
  intro i s t h
  by_cases hi : i = .softReset
  · subst hi
    obtain rfl := next_inj.1 h
    exact ⟨rfl, rfl, rfl, rfl, rfl, fun hne => absurd rfl hne⟩
  · obtain ⟨hcfg, hreset, hagenda, hobserved, hread, harg0, harg1, htime⟩ := (exec_effect hi h).sameSurroundings
    exact ⟨hcfg, hreset, hagenda, hobserved, hread, fun _ =>
      ⟨harg0, harg1, htime, fun _ hoff => windowByte_congr hcfg harg0 harg1 hoff⟩⟩

/-- Settles O20: every effect but the filter's own init keeps its design. -/
theorem coefficientsAreImmutable : Obligations.CoefficientsAreImmutable := by
  intro i s t f hs hf h hi hfilt hctrl
  obtain ⟨hb, ha, horder, hvalid⟩ := (exec_effect hi h).sameDesign (hs.filt_length ▸ hf) hfilt hctrl
  exact ⟨hb, ha, horder, hvalid⟩

/-- Settles O41: by R42 the filter's checks pass where the controller's do, and past the checks the two commands are the
same. -/
theorem ctrlDelegatesToItsFilter : Obligations.CtrlDelegatesToItsFilter := by
  intro s c hs hc hv
  obtain ⟨hf, hfv⟩ := hs.wrapped hc hv
  exact ⟨⟨_, onValidController_of_valid hc hv _ _, onValidFilter_of_valid hf hfv _ _⟩,
    ⟨_, onValidController_of_valid hc hv _ _, onValidFilter_of_valid hf hfv _ _⟩,
    ⟨_, onValidController_of_valid hc hv _ _, onValidFilter_of_valid hf hfv _ _⟩⟩

/-- Settles O44: the rows of the table are those with an edge of the XOR signal, and give the sign of the change. -/
theorem sampleCountsByTheGrayCodeTable : Obligations.SampleCountsByTheGrayCodeTable := by
  intro save q a b hq
  refine ⟨fun hup => ?_, fun hdown => ?_, fun hup hdown => ?_⟩
  · obtain ⟨hedge, hdelta⟩ := edge_of_grayUp hup
    rw [qdSample_of_edge save (hq ▸ hedge), hdelta]
    rfl
  · obtain ⟨hedge, hdelta⟩ := edge_of_grayDown hdown
    rw [qdSample_of_edge save (hq ▸ hedge), hdelta, BitVec.sub_eq_add_neg]
    rfl
  · exact qdSample_of_no_edge save ((no_edge_of_not_gray hup hdown).trans hq.symm)

/-- Settles O22: TC is a legal configuration. -/
theorem resetMeetsTheInvariant : Obligations.ResetMeetsTheInvariant :=
  ⟨fun _ n hc => resetOf_inv hc n, resetOf_inv (by decide) 0⟩

/-- Settles O23: the reset state is the stated one field by field, and a release applies it only from assertion. -/
theorem nopChangesNothingAndResetChangesAll : Obligations.NopChangesNothingAndResetChangesAll := by
  intro s
  refine ⟨rfl, rfl, rfl, fun hheld => ?_, fun hreleased => ?_⟩
  · obtain ⟨-, e⟩ | ⟨hfree, -⟩ := s.releaseReset_cases
    · exact congrArg Host.Outcome.next e
    · exact absurd (hheld.symm.trans hfree) Bool.noConfusion
  · obtain ⟨hheld, -⟩ | ⟨-, e⟩ := s.releaseReset_cases
    · exact absurd (hheld.symm.trans hreleased) Bool.noConfusion
    · exact congrArg Host.Outcome.next e

end Sys2Proof.Proofs
end

section
/-! SUPPORT. The register window: which accesses reach a register, what an access does to the block, and the fields of the
PARAM words (R70 to R79). -/

namespace Sys2Proof.Machine

open Sys2Proof.Claims

/-! ### The registers' places -/

/-- The offset of a register in the window (R72). -/
def Reg.offset : Reg → Nat
  | .cmd => 0x00
  | .arg0 => 0x04
  | .arg1 => 0x08
  | .res0 => 0x0C
  | .res1 => 0x10
  | .status => 0x14
  | .param0 => 0x18
  | .param1 => 0x1C

/-- The registers a write to which faults (R72, R73). -/
def Reg.readOnly : Reg → Bool
  | .res0 | .res1 | .param0 | .param1 => true
  | .cmd | .arg0 | .arg1 | .status => false

theorem Reg.offset_aligned (reg : Reg) : reg.offset % 4 = 0 ∧ reg.offset < 0x20 := by cases reg <;> decide

theorem Reg.readOnly_of_offset {reg : Reg} (h : reg.offset ∈ [0x0C, 0x10, 0x18, 0x1C]) : reg.readOnly = true := by
  revert h; cases reg <;> decide

/-- An access reaches a register exactly when it is of 4 bytes at the register's offset (R71, R72). -/
theorem regAt_eq_some_iff {off size : Nat} {reg : Reg} : regAt off size = some reg ↔ size = 4 ∧ off = reg.offset := by
  constructor
  · intro h
    unfold regAt at h
    split at h
    · next hsize => split at h <;> cases h <;> exact ⟨hsize, rfl⟩
    · cases h
  · rintro ⟨rfl, rfl⟩
    cases reg <;> rfl

/-- The malformed accesses reach no register (R73). -/
theorem regAt_eq_none_of_malformed {off size : Nat} (h : size ≠ 4 ∨ off % 4 ≠ 0 ∨ 0x20 ≤ off) :
    regAt off size = none := by
  rw [Option.eq_none_iff_forall_ne_some]
  intro reg hreg
  obtain ⟨hsize, rfl⟩ := regAt_eq_some_iff.1 hreg
  have haligned := reg.offset_aligned
  omega

/-! ### Accesses inside the window, and outside it -/

theorem inWindow_eq_false_iff {c : Config} {addr : Nat} :
    inWindow c addr = false ↔ addr < c.base ∨ c.base + 256 ≤ addr := by
  simp only [inWindow, decide_eq_false_iff_not]
  omega

section Accesses

variable {s : State} {off size addr : Nat} {reg : Reg} (run : Word → State → Out) (v : Word)

theorem hostRead_noRegister (hoff : off < 256) (hreg : regAt off size = none) :
    hostRead (s.cfg.base + off) size s = .next ((s.accessFault off).deliver 0) := by
  simp [hostRead, inWindow_base_add hoff, hreg]

theorem hostRead_outside (h : addr < s.cfg.base ∨ s.cfg.base + 256 ≤ addr) :
    hostRead addr size s = .fault (.noSuchAddress addr) := by
  simp [hostRead, inWindow_eq_false_iff.2 h]

theorem hostWrite_outside (h : addr < s.cfg.base ∨ s.cfg.base + 256 ≤ addr) :
    hostWrite run addr size v s = .fault (.noSuchAddress addr) := by
  simp [hostWrite, inWindow_eq_false_iff.2 h]

theorem hostWrite_noRegister (hoff : off < 256) (hreg : regAt off size = none) :
    hostWrite run (s.cfg.base + off) size v s = .next (s.accessFault off) := by
  simp [hostWrite, inWindow_base_add hoff, hreg]

theorem hostWrite_readOnly (hoff : off < 256) (hreg : regAt off size = some reg) (hro : reg.readOnly = true) :
    hostWrite run (s.cfg.base + off) size v s = .next (s.accessFault off) := by
  cases reg with
  | res0 | res1 | param0 | param1 => simp [hostWrite, inWindow_base_add hoff, hreg]
  | cmd | arg0 | arg1 | status => cases hro

theorem hostWrite_arg0 : hostWrite run (s.cfg.base + 0x04) 4 v s = .next { s with arg0 := v } := by
  simp [hostWrite, inWindow_base_add, regAt]

theorem hostWrite_arg1 : hostWrite run (s.cfg.base + 0x08) 4 v s = .next { s with arg1 := v } := by
  simp [hostWrite, inWindow_base_add, regAt]

theorem hostWrite_status : hostWrite run (s.cfg.base + 0x14) 4 v s = .next (s.clearFaults v) := by
  simp [hostWrite, inWindow_base_add, regAt]

theorem acceptAccess_held (k : Out) (h : s.resetHeld = true) : acceptAccess addr s k = .fault (.accessInReset addr) :=
  if_pos h

theorem agentStep_held (t : State) (h : s.resetHeld = true) : agentStep s t = .next s :=
  congrArg Host.Outcome.next (if_pos h)

end Accesses

/-! ### Steps that are accesses -/

section Steps

variable {s : State} {rest : List Event} {addr size : Nat} {v : Word}

theorem step_hostRead (h : Next s (.read addr size) rest) : step s = hostRead addr size { s with agenda := rest } := by
  obtain ⟨hcoming, hreset⟩ := h
  rw [step_coming hcoming, perform_released runWord _ (by exact hreset)]

theorem step_hostWrite (h : Next s (.write addr size v) rest) :
    step s = hostWrite runWord addr size v { s with agenda := rest } := by
  obtain ⟨hcoming, hreset⟩ := h
  rw [step_coming hcoming, perform_released runWord _ (by exact hreset)]

/-- A word handed to `withFetchWord` as a number is the next command (assumption 18). -/
theorem withFetchWord_next (w : Word) (hc : configLegal s.cfg = true) (hreset : s.resetHeld = false) :
    Next (s.withFetchWord 32 w.toNat) (commandEvent s.cfg w) s.agenda := by
  refine ⟨⟨hc, ?_⟩, hreset⟩
  rw [State.withFetchWord, Nat.mod_eq_of_lt w.isLt, BitVec.ofNat_toNat, BitVec.setWidth_eq]

theorem runWord_ok {w : Word} {i : Instr} (h : decode w = .ok i) (s : State) : runWord w s = exec i s := by
  simp [runWord, h]

theorem runWord_error {w : Word} {e : DecodeError} (h : decode w = .error e) (s : State) :
    runWord w s = .next (s.raise (codeOf e) (opcOf w)) := by
  simp [runWord, h, rejectWord, fail_eq]

end Steps

/-! ### The PARAM words -/

/-- The fields of PARAM0, each the low bits of its parameter: the fields below it are peeled off (R78). -/
theorem param0Word_fields (c : Config) :
    (param0Word c).extractLsb' 0 4 = BitVec.ofNat 4 c.rbLog2 ∧ (param0Word c).extractLsb' 4 4 = BitVec.ofNat 4 c.numRb ∧
    (param0Word c).extractLsb' 8 4 = BitVec.ofNat 4 c.numFilt ∧
    (param0Word c).extractLsb' 12 4 = BitVec.ofNat 4 c.numCtrl ∧
    (param0Word c).extractLsb' 16 4 = BitVec.ofNat 4 c.numFlag ∧ (param0Word c).getLsbD 20 = c.qdSaveOnNoEdge ∧
    (param0Word c).extractLsb' 21 11 = 0 := by
  unfold param0Word
  refine ⟨BitVec.extractLsb'_append_eq_right, ?rb, ?filt, ?ctrl, ?flag, ?save, ?zero⟩
  case save =>
    simp only [BitVec.getLsbD_append]
    simp
  all_goals repeat rw [BitVec.extractLsb'_append_eq_of_le (by decide)]
  case zero => exact BitVec.extractLsb'_eq_self
  all_goals exact BitVec.extractLsb'_append_eq_right

/-- The fields of PARAM1 (R78). -/
theorem param1Word_fields (c : Config) :
    (param1Word c).extractLsb' 0 16 = BitVec.ofNat 16 c.ticksPerMs ∧ (param1Word c).extractLsb' 16 16 = 0 :=
  ⟨BitVec.extractLsb'_append_eq_right, BitVec.extractLsb'_append_eq_left⟩

end Sys2Proof.Machine
end

section
/-! SUPPORT. The statements about the register window and the events of the environment. -/

namespace Sys2Proof.Proofs

open Sys2Proof Sys2Proof.Machine Sys2Proof.Claims

/-- Settles O11: by R7 every parameter is small enough for its field. -/
theorem paramWordsReportTheConfiguration : Obligations.ParamWordsReportTheConfiguration := by
  refine ⟨fun c hc => ?_, by decide, by decide⟩
  obtain ⟨-, hlog, -, hrb, hle, hfilt, -, hctrl, -, hflag, -, hticks, -⟩ := (configLegal_iff c).1 hc
  obtain ⟨elog, erb, efilt, ectrl, eflag, esave, ezero⟩ := param0Word_fields c
  obtain ⟨eticks, ezero'⟩ := param1Word_fields c
  simp only [elog, erb, efilt, ectrl, eflag, eticks, BitVec.toNat_ofNat]
  refine ⟨?_, ?_, ?_, ?_, ?_, esave, ezero, ?_, ezero'⟩ <;> exact Nat.mod_eq_of_lt (by omega)

/-- Settles O6: a write to CMD runs its word, and decoding decides between the command and the record. -/
theorem stepRunsTheDecodedCommand : Obligations.StepRunsTheDecodedCommand := by
  refine ⟨fun s rest w hnext => ?_, fun s w i hc hreset hdec => ?_⟩
  · have hstep : step s = runWord w { s with agenda := rest } := step_command hnext
    exact ⟨fun i hdec => hstep.trans (runWord_ok hdec _), fun e hdec => hstep.trans (runWord_error hdec _)⟩
  · exact (step_command (withFetchWord_next w hc hreset)).trans (runWord_ok hdec s)

/-- Settles O8: a malformed access reaches no register, and a register that refuses the write is read-only. -/
theorem malformedAccessesFault : Obligations.MalformedAccessesFault := by
  intro s rest off size v hoff
  refine ⟨fun hbad hnext => ?_, fun hbad hnext => ?_⟩
  · exact (step_hostRead hnext).trans (hostRead_noRegister hoff (regAt_eq_none_of_malformed hbad))
  · refine (step_hostWrite hnext).trans ?_
    cases hreg : regAt off size with
    | none => exact hostWrite_noRegister runWord v hoff hreg
    | some reg =>
      obtain hbad | hmem := hbad
      · exact absurd (hreg.symm.trans (regAt_eq_none_of_malformed hbad)) (Option.some_ne_none reg)
      · obtain ⟨-, rfl⟩ := regAt_eq_some_iff.1 hreg
        exact hostWrite_readOnly runWord v hoff hreg (Reg.readOnly_of_offset hmem)

/-- Settles O9: the two offsets are those of ARG0 and ARG1. -/
theorem operandWritesStore : Obligations.OperandWritesStore := fun _ _ v =>
  ⟨fun hnext => (step_hostWrite hnext).trans (hostWrite_arg0 runWord v),
    fun hnext => (step_hostWrite hnext).trans (hostWrite_arg1 runWord v)⟩

/-- Settles O10: a STATUS write is `clearFaults`, which bit 0 decides. -/
theorem statusWriteClearsTheRecord : Obligations.StatusWriteClearsTheRecord := by
  intro s rest w hnext
  have hstep : step s = .next ({ s with agenda := rest }.clearFaults w) :=
    (step_hostWrite hnext).trans (hostWrite_status runWord w)
  exact ⟨fun hset => by rw [hstep, State.clearFaults, if_pos hset],
    fun hclear => by rw [hstep, State.clearFaults, if_neg (Bool.not_eq_true _ ▸ hclear)]⟩

/-- Settles O12: a register's offset is a multiple of 4, so division by 4 splits the address into register and lane. -/
theorem windowBytesAreLittleEndian : Obligations.WindowBytesAreLittleEndian := by
  intro s off k reg hk hreg
  obtain ⟨-, rfl⟩ := regAt_eq_some_iff.1 hreg
  have haligned := reg.offset_aligned
  have hword : (reg.offset + k) / 4 * 4 = reg.offset := by omega
  have hlane : (reg.offset + k) % 4 = k := by omega
  rw [State.windowByte, hword, hlane, hreg]

/-- Settles O13: the empty agenda, then the accesses outside the window, then each event met while in reset. -/
theorem environmentConventions : Obligations.EnvironmentConventions := by
  refine ⟨fun s hc hempty => by simp [step, hc, hempty], fun s rest addr size hout hnext => ?_,
    fun s rest addr size v hout hnext => ?_, fun s rest hheld => ⟨fun addr size hcoming => ?_,
      fun addr size v hcoming => ?_, fun sd x b hcoming => ?_, fun hcoming => ?_⟩⟩
  · exact (step_hostRead hnext).trans (hostRead_outside hout)
  · exact (step_hostWrite hnext).trans (hostWrite_outside runWord v hout)
  · exact (step_coming hcoming).trans (acceptAccess_held _ hheld)
  · exact (step_coming hcoming).trans (acceptAccess_held _ hheld)
  · exact (step_coming hcoming).trans (agentStep_held _ hheld)
  · exact (step_coming hcoming).trans (agentStep_held _ hheld)

end Sys2Proof.Proofs
end

section
/-! SUPPORT. Decoding row by row: a word whose OPC is a command's is that row's command with the word's operands, if the
reserved bits of the row are zero (R100 to R105). -/

namespace Sys2Proof

/-! ### The operands of a row, and its reserved bits -/

/-- The command of the same row with the operands that stand in the fields of a word (R101 to R103). -/
def Instr.readFrom (w : Word) : Instr → Instr
  | .nop => .nop
  | .softReset => .softReset
  | .rbInit _ => .rbInit (instOf w).toNat
  | .rbPushBack _ => .rbPushBack (instOf w).toNat
  | .rbPushFront _ => .rbPushFront (instOf w).toNat
  | .rbPopBack _ => .rbPopBack (instOf w).toNat
  | .rbPopFront _ => .rbPopFront (instOf w).toNat
  | .rbGet _ _ => .rbGet (instOf w).toNat (idxOf w).toNat
  | .rbSet _ _ => .rbSet (instOf w).toNat (idxOf w).toNat
  | .rbLength _ => .rbLength (instOf w).toNat
  | .coefWr _ _ => .coefWr (bankOfBit ((auxOf w).getLsbD 0)) (idxOf w).toNat
  | .filtInit _ _ => .filtInit (instOf w).toNat (idxOf w).toNat
  | .filtValue _ => .filtValue (instOf w).toNat
  | .filtLast _ => .filtLast (instOf w).toNat
  | .filtSetto _ => .filtSetto (instOf w).toNat
  | .filtShiftby _ => .filtShiftby (instOf w).toNat
  | .filtRead _ _ _ => .filtRead (instOf w).toNat (idxOf w).toNat (auxOf w).toNat
  | .ctrlInit _ _ _ => .ctrlInit (instOf w).toNat (idxOf w).toNat (selOfBit ((auxOf w).getLsbD 0))
  | .ctrlSetPos _ => .ctrlSetPos (instOf w).toNat
  | .ctrlSetVel _ => .ctrlSetVel (instOf w).toNat
  | .ctrlUpdate _ => .ctrlUpdate (instOf w).toNat
  | .ctrlLast _ => .ctrlLast (instOf w).toNat
  | .ctrlSetto _ => .ctrlSetto (instOf w).toNat
  | .ctrlShiftby _ => .ctrlShiftby (instOf w).toNat
  | .ctrlRead _ _ => .ctrlRead (instOf w).toNat (auxOf w).toNat
  | .qdInit _ => .qdInit (instOf w).toNat
  | .qdRead _ => .qdRead (instOf w).toNat
  | .qdReadBoth => .qdReadBoth
  | .qdAngle _ => .qdAngle (instOf w).toNat
  | .qdSetScale _ => .qdSetScale (instOf w).toNat
  | .qdState _ => .qdState (instOf w).toNat
  | .qdInject _ _ _ => .qdInject (instOf w).toNat ((auxOf w).getLsbD 1) ((auxOf w).getLsbD 0)
  | .timeRead => .timeRead
  | .flagArm _ _ _ => .flagArm (instOf w).toNat (idxOf w) (auxOf w)
  | .flagCancel _ => .flagCancel (instOf w).toNat
  | .flagPoll _ => .flagPoll (instOf w).toNat
  | .flagDone _ => .flagDone (instOf w).toNat
  | .flagRead _ _ => .flagRead (instOf w).toNat (auxOf w).toNat
  | .flagDefault _ => .flagDefault (instOf w).toNat

/-- The bits of INST that are reserved in the command's row (R103, R105). -/
def Instr.instReserved : Instr → Byte
  | .nop | .softReset | .coefWr _ _ | .qdReadBoth | .timeRead => 0xFF
  | _ => 0

/-- The bits of IDX that are reserved in the command's row (R103, R105). -/
def Instr.idxReserved : Instr → Byte
  | .rbGet _ _ | .rbSet _ _ | .coefWr _ _ | .filtInit _ _ | .filtRead _ _ _ | .ctrlInit _ _ _ | .flagArm _ _ _ => 0
  | _ => 0xFF

/-- The bits of AUX that are reserved in the command's row (R103, R105). -/
def Instr.auxReserved : Instr → Byte
  | .filtRead _ _ _ | .ctrlRead _ _ | .flagArm _ _ _ | .flagRead _ _ => 0
  | .coefWr _ _ | .ctrlInit _ _ _ => 0xFE
  | .qdInject _ _ _ => 0xFC
  | _ => 0xFF

theorem rowMask_eq_pack (i : Instr) : i.rowMask = pack 0xFF i.instReserved i.idxReserved i.auxReserved := by
  cases i <;> simp only [Instr.rowMask, Instr.instReserved, Instr.idxReserved, Instr.auxReserved] <;> decide

theorem rowMatch_eq_pack (i : Instr) : i.rowMatch = pack i.opcode 0 0 0 := by
  cases i <;> simp only [Instr.rowMatch, Instr.opcode] <;> decide

/-- A word is given by its fields (R100). -/
theorem pack_eq_iff {a b c d : Byte} {w : Word} :
    pack a b c d = w ↔ a = opcOf w ∧ b = instOf w ∧ c = idxOf w ∧ d = auxOf w := by
  constructor
  · rintro rfl
    simp
  · rintro ⟨rfl, rfl, rfl, rfl⟩
    exact pack_fields w

/-- The reserved bits of the command's row are zero in a word (R105). -/
def Instr.clearIn (i : Instr) (w : Word) : Bool :=
  instOf w &&& i.instReserved == 0 && (idxOf w &&& i.idxReserved == 0 && auxOf w &&& i.auxReserved == 0)

theorem clearIn_iff {i : Instr} {w : Word} : i.clearIn w = true ↔
    instOf w &&& i.instReserved = 0 ∧ idxOf w &&& i.idxReserved = 0 ∧ auxOf w &&& i.auxReserved = 0 := by
  simp only [Instr.clearIn, Bool.and_eq_true, beq_iff_eq]

/-- A word matches a row of the table if it has the row's OPC and zero reserved bits (R103, R105). -/
theorem matches_row_iff (i : Instr) (w : Word) :
    w &&& i.rowMask = i.rowMatch ↔ opcOf w = i.opcode ∧ i.clearIn w = true := by
  have hand : w &&& i.rowMask =
      pack (opcOf w) (instOf w &&& i.instReserved) (idxOf w &&& i.idxReserved) (auxOf w &&& i.auxReserved) := by
    conv_lhs => rw [← pack_fields w, rowMask_eq_pack, pack_and_pack, and_ones]
  rw [hand, rowMatch_eq_pack, pack_eq_iff, clearIn_iff]
  simp only [opcOf_pack, instOf_pack, idxOf_pack, auxOf_pack]

/-! ### Fields with a part of their bits reserved -/

theorem eq_zero_of_and_ones {b : Byte} (h : b &&& 0xFF = 0) : 0 = b := (and_ones b ▸ h).symm

theorem and_ones_beq_zero (b : Byte) : (b &&& 255#8 == 0#8) = (b == 0#8) := congrArg (· == 0#8) (and_ones b)

theorem and_FE_beq_zero (b : Byte) : (b &&& 254#8 == 0#8) = (b.extractLsb' 1 7 == 0#7) := by
  revert b; decide

theorem and_FC_beq_zero (b : Byte) : (b &&& 252#8 == 0#8) = (b.extractLsb' 2 6 == 0#6) := by
  revert b; decide

theorem bankBit_of_clear (b : Byte) : b &&& 0xFE = 0 → bankBit (bankOfBit (b.getLsbD 0)) = b := by
  revert b; decide

theorem selBit_of_clear (b : Byte) : b &&& 0xFE = 0 → selBit (selOfBit (b.getLsbD 0)) = b := by
  revert b; decide

theorem sampleBits_of_clear (b : Byte) : b &&& 0xFC = 0 → sampleBits (b.getLsbD 1) (b.getLsbD 0) = b := by
  revert b; decide

theorem bankOfBit_bankBit (k : Bank) : bankOfBit ((bankBit k).getLsbD 0) = k := by cases k <;> rfl

theorem selOfBit_selBit (m : SelRule) : selOfBit ((selBit m).getLsbD 0) = m := by cases m <;> rfl

theorem sampleBits_getLsbD (x b : Bool) : (sampleBits x b).getLsbD 1 = x ∧ (sampleBits x b).getLsbD 0 = b := by
  cases x <;> cases b <;> exact ⟨rfl, rfl⟩

/-! ### Reading a row's command from a word -/

section ReadFrom

variable {i : Instr} {w : Word}

theorem fitsByte_iff {n : Nat} : fitsByte n = true ↔ n < 256 := decide_eq_true_iff

theorem fitsByte_toNat (b : Byte) : fitsByte b.toNat = true := fitsByte_iff.2 b.isLt

theorem instOf_encode (i : Instr) : instOf (encode i) = i.instField := instOf_pack _ _ _ _

theorem idxOf_encode (i : Instr) : idxOf (encode i) = i.idxField := idxOf_pack _ _ _ _

theorem auxOf_encode (i : Instr) : auxOf (encode i) = i.auxField := auxOf_pack _ _ _ _

theorem readFrom_wellFormed (w : Word) (i : Instr) : (i.readFrom w).wellFormed = true := by
  cases i <;> simp [Instr.readFrom, Instr.wellFormed, fitsByte_toNat]

theorem readFrom_opcode (w : Word) (i : Instr) : (i.readFrom w).opcode = i.opcode := by
  cases i <;> rfl

theorem readFrom_instField (h : instOf w &&& i.instReserved = 0) : (i.readFrom w).instField = instOf w := by
  cases i with
  | nop | softReset | coefWr | qdReadBoth | timeRead => exact eq_zero_of_and_ones h
  | _ => exact field_of_toNat (instOf w)

theorem readFrom_idxField (h : idxOf w &&& i.idxReserved = 0) : (i.readFrom w).idxField = idxOf w := by
  cases i with
  | rbGet | rbSet | coefWr | filtInit | filtRead | ctrlInit => exact field_of_toNat (idxOf w)
  | flagArm => rfl
  | _ => exact eq_zero_of_and_ones h

theorem readFrom_auxField (h : auxOf w &&& i.auxReserved = 0) : (i.readFrom w).auxField = auxOf w := by
  cases i with
  | filtRead | ctrlRead | flagRead => exact field_of_toNat (auxOf w)
  | flagArm => rfl
  | coefWr => exact bankBit_of_clear (auxOf w) h
  | ctrlInit => exact selBit_of_clear (auxOf w) h
  | qdInject => exact sampleBits_of_clear (auxOf w) h
  | _ => exact eq_zero_of_and_ones h

/-- A word with a row's OPC and zero reserved bits is the encoding of what is read from it. -/
theorem encode_readFrom (hopc : opcOf w = i.opcode) (hclear : i.clearIn w = true) : encode (i.readFrom w) = w := by
  obtain ⟨hinst, hidx, haux⟩ := clearIn_iff.1 hclear
  exact pack_eq_iff.2 ⟨(readFrom_opcode w i).trans hopc.symm, readFrom_instField hinst, readFrom_idxField hidx,
    readFrom_auxField haux⟩

/-- A command that fits its fields is read back from its own word (R101). -/
theorem readFrom_encode (h : i.wellFormed = true) : i.readFrom (encode i) = i := by
  cases i with
  | nop | softReset | qdReadBoth | timeRead => rfl
  | _ =>
    simp only [Instr.wellFormed, Bool.and_eq_true, fitsByte_iff] at h
    simp only [Instr.readFrom, instOf_encode, idxOf_encode, auxOf_encode, Instr.instField, Instr.idxField,
      Instr.auxField, field_toNat, h, bankOfBit_bankBit, selOfBit_selBit, sampleBits_getLsbD]

/-- Decoding is by the row of the OPC: the row's command is read if the row's reserved bits are zero (R100, R105).
FILT_READ and FLAG_ARM have none. -/
theorem decode_of_opcode (h : opcOf w = i.opcode) : decode w = ifClear (i.clearIn w) (i.readFrom w) := by
  cases i with
  | filtRead | flagArm =>
    simp [decode, h, Instr.opcode, Instr.readFrom, Instr.clearIn, Instr.instReserved,
      Instr.idxReserved, Instr.auxReserved, ifClear]
  | _ =>
    simp [decode, h, Instr.opcode, Instr.readFrom, Instr.clearIn, Instr.instReserved,
      Instr.idxReserved, Instr.auxReserved, and_ones_beq_zero, and_FE_beq_zero, and_FC_beq_zero]

end ReadFrom

/-! ### The rows of the table -/

section Rows

open Sys2Proof.Claims

variable {i : Instr} {w : Word}

open Laws.TableRow in
/-- Every command's word matches the command's row (R103, R105). -/
theorem encode_matches_row (i : Instr) : encode i &&& i.rowMask = i.rowMatch := by
  cases i
  exacts [nop, softReset, rbInit _, rbPushBack _, rbPushFront _, rbPopBack _, rbPopFront _, rbGet _ _, rbSet _ _,
    rbLength _, coefWr _ _, filtInit _ _, filtValue _, filtLast _, filtSetto _, filtShiftby _, filtRead _ _ _,
    ctrlInit _ _ _, ctrlSetPos _, ctrlSetVel _, ctrlUpdate _, ctrlLast _, ctrlSetto _, ctrlShiftby _, ctrlRead _ _,
    qdInit _, qdRead _, qdReadBoth, qdAngle _, qdSetScale _, qdState _, qdInject _ _ _, timeRead, flagArm _ _ _,
    flagCancel _, flagPoll _, flagDone _, flagRead _ _, flagDefault _]

theorem row_mem_opcodeRows (i : Instr) : (i.rowMatch, i.rowMask) ∈ opcodeRows := by
  cases i <;> simp [Instr.rowMatch, Instr.rowMask, opcodeRows]

/-- The "match" word of every row of the table is a command of that row. -/
theorem decode_rowMatch :
    opcodeRows.map (fun row => (decode row.1).toOption.map fun i => (i.rowMatch, i.rowMask)) = opcodeRows.map some := by
  rfl

/-- The rows of the table are the commands' rows. -/
theorem exists_row_iff {p : Word → Word → Prop} :
    (∃ row ∈ opcodeRows, p row.1 row.2) ↔ ∃ i : Instr, p i.rowMatch i.rowMask := by
  constructor
  · rintro ⟨row, hmem, hp⟩
    obtain ⟨i, -, rfl⟩ := Option.map_eq_some_iff.1 (List.map_inj_left.1 decode_rowMatch row hmem)
    exact ⟨i, hp⟩
  · rintro ⟨i, hp⟩
    exact ⟨_, row_mem_opcodeRows i, hp⟩

/-- The OPC part of the "match" column (R103). -/
theorem and_opcMask_eq_rowMatch_iff (i : Instr) (w : Word) : w &&& 0xFF000000 = i.rowMatch ↔ opcOf w = i.opcode := by
  have hand : w &&& 0xFF000000 = pack (opcOf w) 0 0 0 := by
    have hmask : (0xFF000000 : Word) = pack 0xFF 0 0 0 := by decide
    conv_lhs => rw [← pack_fields w, hmask, pack_and_pack, and_ones, and_zeros, and_zeros, and_zeros]
  rw [hand, rowMatch_eq_pack, pack_eq_iff]
  simp

/-! ### All that decoding can answer -/

/-- The listed OPC values as ranges (R104). -/
theorem mem_illegalOpcodes_iff (n : Nat) : n ∈ illegalOpcodes ↔
    0x02 ≤ n ∧ n < 0x10 ∨ 0x18 ≤ n ∧ n < 0x20 ∨ 0x27 ≤ n ∧ n < 0x30 ∨ 0x38 ≤ n ∧ n < 0x40 ∨ 0x47 ≤ n ∧ n < 0x50 ∨
      0x57 ≤ n ∧ n < 0x100 := by
  simp only [illegalOpcodes, List.mem_append, List.mem_range'_1]
  omega

/-- An OPC value that R104 lists is no row's, whatever the other fields hold. -/
theorem decode_of_illegal (h : (opcOf w).toNat ∈ illegalOpcodes) : decode w = .error .illegalOpcode := by
  rw [mem_illegalOpcodes_iff] at h
  unfold decode
  split
  case h_40 => rfl
  all_goals omega

/-- An OPC value that R104 does not list is the OPC of a row of the table. -/
theorem exists_row_of_legal {b : Byte} (h : b.toNat ∉ illegalOpcodes) : ∃ row ∈ opcodeRows, opcOf row.1 = b := by
  rw [mem_illegalOpcodes_iff] at h
  revert b
  decide

theorem exists_opcode_of_legal {b : Byte} (h : b.toNat ∉ illegalOpcodes) : ∃ i : Instr, b = i.opcode := by
  obtain ⟨i, hi⟩ := (exists_row_iff (p := fun mtch _ => opcOf mtch = b)).1 (exists_row_of_legal h)
  exact ⟨i, by rw [← hi, rowMatch_eq_pack, opcOf_pack]⟩

/-- A word has an OPC that R104 lists, or is decoded by the row of its OPC (R100). -/
theorem decode_cases (w : Word) :
    ((opcOf w).toNat ∈ illegalOpcodes ∧ decode w = .error .illegalOpcode) ∨
    ∃ i : Instr, opcOf w = i.opcode ∧ decode w = ifClear (i.clearIn w) (i.readFrom w) := by
  by_cases h : (opcOf w).toNat ∈ illegalOpcodes
  · exact .inl ⟨h, decode_of_illegal h⟩
  · obtain ⟨i, hi⟩ := exists_opcode_of_legal h
    exact .inr ⟨i, hi, decode_of_opcode hi⟩

theorem ifClear_eq_ok_iff {c : Bool} {j : Instr} : ifClear c i = .ok j ↔ c = true ∧ i = j := by
  cases c <;> simp [ifClear]

theorem ifClear_eq_reserved_iff {c : Bool} : ifClear c i = .error .reservedField ↔ c = false := by
  cases c <;> simp [ifClear]

theorem ifClear_ne_illegal {c : Bool} : ifClear c i ≠ .error .illegalOpcode := by
  cases c <;> simp [ifClear]

theorem decode_encode (h : i.wellFormed = true) : decode (encode i) = .ok i := by
  obtain ⟨hopc, hclear⟩ := (matches_row_iff i (encode i)).1 (encode_matches_row i)
  rw [decode_of_opcode hopc, hclear, readFrom_encode h]
  rfl

theorem decode_eq_illegal_iff (w : Word) : decode w = .error .illegalOpcode ↔ (opcOf w).toNat ∈ illegalOpcodes := by
  refine ⟨fun h => ?_, decode_of_illegal⟩
  obtain ⟨hmem, -⟩ | ⟨i, -, hdec⟩ := decode_cases w
  · exact hmem
  · exact absurd (hdec.symm.trans h) ifClear_ne_illegal

/-- A word decodes to a row's command if it matches the row (R103, R105). -/
theorem decode_eq_ok_iff {j : Instr} :
    decode w = .ok j ↔ ∃ i : Instr, w &&& i.rowMask = i.rowMatch ∧ i.readFrom w = j := by
  constructor
  · intro h
    obtain ⟨-, hdec⟩ | ⟨i, hopc, hdec⟩ := decode_cases w
    · cases hdec.symm.trans h
    · obtain ⟨hclear, hread⟩ := ifClear_eq_ok_iff.1 (hdec.symm.trans h)
      exact ⟨i, (matches_row_iff i w).2 ⟨hopc, hclear⟩, hread⟩
  · rintro ⟨i, hmatch, hread⟩
    obtain ⟨hopc, hclear⟩ := (matches_row_iff i w).1 hmatch
    exact (decode_of_opcode hopc).trans (ifClear_eq_ok_iff.2 ⟨hclear, hread⟩)

/-- A word has a reserved-field error if it has a row's OPC and does not match the row (R105). -/
theorem decode_eq_reserved_iff : decode w = .error .reservedField ↔
    ∃ i : Instr, w &&& 0xFF000000 = i.rowMatch ∧ w &&& i.rowMask ≠ i.rowMatch := by
  simp only [and_opcMask_eq_rowMatch_iff, Ne, matches_row_iff]
  constructor
  · intro h
    obtain ⟨-, hdec⟩ | ⟨i, hopc, hdec⟩ := decode_cases w
    · cases hdec.symm.trans h
    · have hclear := ifClear_eq_reserved_iff.1 (hdec.symm.trans h)
      exact ⟨i, hopc, fun ⟨_, hset⟩ => Bool.noConfusion (hclear.symm.trans hset)⟩
  · rintro ⟨i, hopc, hmatch⟩
    exact (decode_of_opcode hopc).trans
      (ifClear_eq_reserved_iff.2 (Bool.eq_false_iff.2 fun hclear => hmatch ⟨hopc, hclear⟩))

end Rows

end Sys2Proof
end

section
/-! SUPPORT. Which commands write the result registers (R103, R108): past its checks a command makes its own effect, and
a fault writes neither. -/

namespace Sys2Proof.Machine

/-! ### What a command does where it does not fault -/

/-- The outcome is a state with the property `p`, or the record of a fault (R335). -/
def Completes (p : State → Prop) (s : State) (o : Out) : Prop :=
  (∃ t, o = .next t ∧ p t) ∨ ∃ code info, o = .next (s.raise code info)

section Completes

variable {p : State → Prop} {s t : State} {opc : Byte} {n : Nat} {k : Out}

theorem Completes.next (h : p t) : Completes p s (.next t) := .inl ⟨t, rfl, h⟩

theorem Completes.fail (code : ErrCode) (opc : Byte) : Completes p s (fail code opc s) := .inr ⟨code, opc, rfl⟩

theorem Completes.ite {q : Prop} [Decidable q] {k' : Out} (h : Completes p s k) (h' : Completes p s k') :
    Completes p s (if q then k else k') := by
  split
  · exact h
  · exact h'

/-- A property that the faults have too is a property of every next state. -/
theorem Completes.of_next (h : Completes p s k) (hraise : ∀ code info, p (s.raise code info)) (ht : k = .next t) :
    p t := by
  obtain ⟨u, hu, hp⟩ | ⟨code, info, hu⟩ := h
  · exact next_inj.1 (hu.symm.trans ht) ▸ hp
  · exact next_inj.1 (hu.symm.trans ht) ▸ hraise code info

theorem onRing_completes (h : Completes p s k) : Completes p s (onRing opc n s k) := .ite h (.fail _ _)

theorem onFilter_completes (h : Completes p s k) : Completes p s (onFilter opc n s k) := .ite h (.fail _ _)

theorem onController_completes (h : Completes p s k) : Completes p s (onController opc n s k) := .ite h (.fail _ _)

theorem onFlag_completes (h : Completes p s k) : Completes p s (onFlag opc n s k) := .ite h (.fail _ _)

theorem onValidFilter_completes (h : Completes p s k) : Completes p s (onValidFilter opc n s k) :=
  onFilter_completes (.ite h (.fail _ _))

theorem onValidController_completes (h : Completes p s k) : Completes p s (onValidController opc n s k) :=
  onController_completes (.ite h (.fail _ _))

theorem ifInitable_completes (h : Completes p s k) : Completes p s (ifInitable opc n s k) :=
  .ite (.fail _ _) (.ite (.fail _ _) h)

theorem onSide_completes {k : Side → Out} (h : ∀ sd, Completes p s (k sd)) : Completes p s (onSide opc n s k) := by
  obtain ⟨sd, -, e⟩ | ⟨-, e⟩ := onSide_cases opc n s k <;> rw [e]
  · exact h sd
  · exact .fail _ _

end Completes

/-! ### The result registers -/

/-- The OPC values of the commands that R103 lists as writing RES0. -/
def res0Opcodes : List Nat :=
  [0x13, 0x14, 0x15, 0x17, 0x22, 0x23, 0x26, 0x33, 0x34, 0x37, 0x41, 0x42, 0x43, 0x45, 0x50, 0x53, 0x55]

/-- The OPC values of the commands that R103 lists as writing RES1. -/
def res1Opcodes : List Nat := [0x33, 0x42, 0x50]

/-- `t` has the results of `s`, but for those that the command `i` is listed to write (R108). -/
def ResultsAsListed (i : Instr) (s t : State) : Prop :=
  (i.opcode.toNat ∉ res0Opcodes → t.res0 = s.res0) ∧ (i.opcode.toNat ∉ res1Opcodes → t.res1 = s.res1)

section Results

variable {i : Instr} {s t : State}

/-- A command that keeps both results needs no listing. -/
theorem ResultsAsListed.of_kept (h0 : t.res0 = s.res0) (h1 : t.res1 = s.res1) : ResultsAsListed i s t :=
  ⟨fun _ => h0, fun _ => h1⟩

/-- A command listed for RES0 may write it. -/
theorem ResultsAsListed.of_listed (h0 : res0Opcodes.contains i.opcode.toNat = true) (h1 : t.res1 = s.res1) :
    ResultsAsListed i s t :=
  ⟨fun hn => absurd (List.contains_iff_mem.1 h0) hn, fun _ => h1⟩

/-- A command listed for both results may write both. -/
theorem ResultsAsListed.of_listed_both (h0 : res0Opcodes.contains i.opcode.toNat = true)
    (h1 : res1Opcodes.contains i.opcode.toNat = true) : ResultsAsListed i s t :=
  ⟨fun hn => absurd (List.contains_iff_mem.1 h0) hn, fun hn => absurd (List.contains_iff_mem.1 h1) hn⟩

end Results

/-- Every command but SOFT_RESET writes the results only as listed (R108). -/
theorem exec_resultsAsListed (i : Instr) (hi : i ≠ .softReset) (s : State) :
    Completes (ResultsAsListed i s) s (exec i s) := by
  cases i with
  | nop => exact .next (.of_kept rfl rfl)
  | softReset => exact absurd rfl hi
  | rbInit | rbPushBack | rbPushFront => exact onRing_completes (.next (.of_kept rfl rfl))
  | rbSet => exact onRing_completes (.ite (.next (.of_kept rfl rfl)) (.fail _ _))
  | rbPopBack | rbPopFront | rbLength => exact onRing_completes (.next (.of_listed rfl rfl))
  | rbGet => exact onRing_completes (.ite (.next (.of_listed rfl rfl)) (.fail _ _))
  | coefWr bank => exact .ite (.fail _ _) (.next (.of_kept (s.stage_res0 bank _ _) (s.stage_res1 bank _ _)))
  | filtInit => exact onFilter_completes (ifInitable_completes (.next (.of_kept rfl rfl)))
  | filtSetto | filtShiftby => exact onValidFilter_completes (.next (.of_kept rfl rfl))
  | filtValue | filtLast => exact onValidFilter_completes (.next (.of_listed rfl rfl))
  | filtRead f n sel =>
    have hread {v : Word} : Completes (ResultsAsListed (.filtRead f n sel) s) s (.next (s.setRes0 v)) :=
      .next (.of_listed rfl rfl)
    exact onFilter_completes
      (.ite (.fail _ _) (.ite (.ite hread (.fail _ _)) (.ite (.fail _ _) (.ite (.fail _ _) hread))))
  | ctrlInit => exact onController_completes (ifInitable_completes (.next (.of_kept rfl rfl)))
  | ctrlSetPos | ctrlSetVel | ctrlSetto | ctrlShiftby => exact onValidController_completes (.next (.of_kept rfl rfl))
  | ctrlUpdate => exact onValidController_completes (.next (.of_listed_both rfl rfl))
  | ctrlLast => exact onValidController_completes (.next (.of_listed rfl rfl))
  | ctrlRead c sel =>
    refine onController_completes ?_
    match sel with
    | 0 | 1 | 2 | 3 | 4 => exact .next (.of_listed rfl rfl)
    | _ + 5 => exact .fail _ _
  | qdInit => exact onSide_completes fun sd => .next (.of_kept (s.initSide_res0 sd) (s.initSide_res1 sd))
  | qdSetScale => exact onSide_completes fun sd => .next (.of_kept (s.setQuad_res0 sd _) (s.setQuad_res1 sd _))
  | qdInject n x b =>
    exact onSide_completes fun sd => .next (.of_kept (s.sampleSide_res0 sd x b) (s.sampleSide_res1 sd x b))
  | qdRead | qdState => exact onSide_completes fun _ => .next (.of_listed rfl rfl)
  | qdAngle =>
    exact onSide_completes fun _ => .next (.of_listed rfl ((State.spend_res1 _ 1).trans (s.setRes0_res1 _)))
  | qdReadBoth | timeRead => exact .next (.of_listed_both rfl rfl)
  | flagArm | flagCancel | flagDone | flagDefault => exact onFlag_completes (.next (.of_kept rfl rfl))
  | flagPoll => exact onFlag_completes (.next (.of_listed rfl rfl))
  | flagRead g sel =>
    refine onFlag_completes ?_
    match sel with
    | 0 | 1 | 2 | 3 | 4 => exact .next (.of_listed rfl rfl)
    | _ + 5 => exact .fail _ _

end Sys2Proof.Machine
end

section
/-! SUPPORT. The statements about the encoding. -/

namespace Sys2Proof.Proofs

open Sys2Proof Sys2Proof.Machine Sys2Proof.Claims

/-- Settles O1: the word matches the command's row, and its operands are read back from it. -/
theorem decodeOfEncodeIsTheCommand : Obligations.DecodeOfEncodeIsTheCommand := fun _ => decode_encode

/-- Settles O2: a word that decodes matches a row, so what is read from it encodes to it. -/
theorem encodeOfDecodeIsTheWord : Obligations.EncodeOfDecodeIsTheWord := by
  intro w j h
  obtain ⟨i, hmatch, rfl⟩ := decode_eq_ok_iff.1 h
  obtain ⟨hopc, hclear⟩ := (matches_row_iff i w).1 hmatch
  exact ⟨readFrom_wellFormed w i, encode_readFrom hopc hclear⟩

/-- Settles O3: only the listed OPC values are no row's, and the record of a fault goes on as a command does. -/
theorem illegalOpcodesFault : Obligations.IllegalOpcodesFault := fun w s =>
  ⟨(decode_eq_illegal_iff w).symm, fun h => runWord_error (decode_of_illegal h) s, runWord_goes_on w s⟩

/-- Settles O4: the rows of the table are the commands' rows, and a word is decoded by the row of its OPC. -/
theorem reservedBitsMustBeZero : Obligations.ReservedBitsMustBeZero := by
  intro w s
  refine ⟨?_, ?_, fun h => runWord_error h s⟩
  · rw [exists_row_iff (p := fun mtch mask => w &&& mask = mtch)]
    constructor
    · rintro ⟨j, h⟩
      obtain ⟨i, hmatch, -⟩ := decode_eq_ok_iff.1 h
      exact ⟨i, hmatch⟩
    · rintro ⟨i, hmatch⟩
      exact ⟨i.readFrom w, decode_eq_ok_iff.2 ⟨i, hmatch, rfl⟩⟩
  · rw [exists_row_iff (p := fun mtch mask => w &&& 0xFF000000 = mtch ∧ w &&& mask ≠ mtch)]
    exact decode_eq_reserved_iff

/-- Settles O17: SOFT_RESET is the reset procedure; any other command, faulting or not, writes as listed. -/
theorem onlyListedCommandsWriteResults : Obligations.OnlyListedCommandsWriteResults := by
  refine fun i s t h => ⟨fun hi => ?_, fun hi => ?_⟩
  · exact (exec_resultsAsListed i hi s).of_next (fun _ _ => .of_kept rfl rfl) h
  · subst hi
    obtain rfl := next_inj.1 h
    exact ⟨rfl, rfl⟩

/-- Settles O5: each word is the encoding of its command. -/
theorem sampleWordsDecode : Obligations.SampleWordsDecode :=
  ⟨decode_encode (i := .nop) rfl, decode_encode (i := .softReset) rfl, decode_encode (i := .rbGet 1 3) rfl,
    decode_encode (i := .coefWr .denom 4) rfl, decode_encode (i := .filtRead 2 1 3) rfl,
    decode_encode (i := .ctrlInit 1 5 .mode) rfl, decode_encode (i := .qdInject 1 true false) rfl,
    decode_encode (i := .flagArm 4 0x34 0x12) rfl⟩

end Sys2Proof.Proofs
end

section
/-! SUPPORT. Which commands change which unit (R103): the write of one unit's element keeps all the
others. -/

namespace Sys2Proof.Machine

/-! ### The commands that only read -/

section Reads

variable {p : State → Prop} {s : State}

theorem execFiltRead_completes (h : ∀ v, p (s.setRes0 v)) (f j sel : Nat) : Completes p s (execFiltRead f j sel s) :=
  onFilter_completes (.ite (.fail _ _) (.ite (.ite (.next (h _)) (.fail _ _))
    (.ite (.fail _ _) (.ite (.fail _ _) (.next (h _))))))

theorem execCtrlRead_completes (h : ∀ v, p (s.setRes0 v)) (c sel : Nat) : Completes p s (execCtrlRead c sel s) := by
  refine onController_completes ?_
  match sel with
  | 0 | 1 | 2 | 3 | 4 => exact .next (h _)
  | _ + 5 => exact .fail _ _

theorem execFlagRead_completes (h : ∀ v, p (s.setRes0 v)) (g sel : Nat) : Completes p s (execFlagRead g sel s) := by
  refine onFlag_completes ?_
  match sel with
  | 0 | 1 | 2 | 3 | 4 => exact .next (h _)
  | _ + 5 => exact .fail _ _

end Reads

/-! ### The units -/

/-- `t` has every unit's state as `s` has it, but for the units that a command with this OPC acts on. -/
structure OtherUnitsKept (opc : Byte) (s t : State) : Prop where
  rb : opc.toNat / 16 ≠ 1 → t.rb = s.rb
  stage : opc ≠ 0x20 → t.stageB = s.stageB ∧ t.stageA = s.stageA
  filt : opc.toNat / 16 ≠ 2 → opc.toNat / 16 ≠ 3 → t.filt = s.filt
  ctrl : opc.toNat / 16 ≠ 3 → t.ctrl = s.ctrl
  qd : opc.toNat / 16 ≠ 4 → t.qdLeft = s.qdLeft ∧ t.qdRight = s.qdRight
  flags : opc.toNat / 16 ≠ 5 → t.flags = s.flags

namespace OtherUnitsKept

variable {opc : Byte} {s t : State}

theorem refl : OtherUnitsKept opc s s where
  rb _ := rfl
  stage _ := ⟨rfl, rfl⟩
  filt _ _ := rfl
  ctrl _ := rfl
  qd _ := ⟨rfl, rfl⟩
  flags _ := rfl

theorem raise (h : OtherUnitsKept opc s t) (code : ErrCode) (info : Byte) : OtherUnitsKept opc s (t.raise code info) :=
  { h with }

theorem setRes0 (h : OtherUnitsKept opc s t) (v : Word) : OtherUnitsKept opc s (t.setRes0 v) := { h with }

theorem setRes1 (h : OtherUnitsKept opc s t) (v : Word) : OtherUnitsKept opc s (t.setRes1 v) := { h with }

theorem spend (h : OtherUnitsKept opc s t) (k : Nat) : OtherUnitsKept opc s (t.spend k) := { h with }

/-- A ring is written by a command of RB. -/
theorem setRing (h : OtherUnitsKept opc s t) (hopc : opc.toNat / 16 = 1) (r : Nat) (B : Ring) :
    OtherUnitsKept opc s (t.setRing r B) :=
  { h with rb := fun hn => absurd hopc hn }

/-- A coefficient is staged by COEF_WR. -/
theorem staged (h : OtherUnitsKept opc s t) (hopc : opc = 0x20) (bank : Bank) (j : Nat) (v : Word) :
    OtherUnitsKept opc s (t.stage bank j v) := by
  cases bank <;> exact { h with stage := fun hn => absurd hopc hn }

/-- A filter is written by a command of FILT or CTRL. -/
theorem setFilter (h : OtherUnitsKept opc s t) (hopc : opc.toNat / 16 = 2 ∨ opc.toNat / 16 = 3) (f : Nat) (F : Filt) :
    OtherUnitsKept opc s (t.setFilter f F) :=
  { h with filt := fun h2 h3 => (hopc.elim h2 h3).elim }

/-- A controller is written by a command of CTRL. -/
theorem setController (h : OtherUnitsKept opc s t) (hopc : opc.toNat / 16 = 3) (c : Nat) (C : Ctrl) :
    OtherUnitsKept opc s (t.setController c C) :=
  { h with ctrl := fun hn => absurd hopc hn }

/-- A side of the decoder is written by a command of QD. -/
theorem setQuad (h : OtherUnitsKept opc s t) (hopc : opc.toNat / 16 = 4) (sd : Side) (Q : Quad) :
    OtherUnitsKept opc s (t.setQuad sd Q) := by
  cases sd <;> exact { h with qd := fun hn => absurd hopc hn }

/-- A flag is written by a command of FLAG. -/
theorem setFlag (h : OtherUnitsKept opc s t) (hopc : opc.toNat / 16 = 5) (g : Nat) (G : Flag) :
    OtherUnitsKept opc s (t.setFlag g G) :=
  { h with flags := fun hn => absurd hopc hn }

end OtherUnitsKept

/-- Every command but SOFT_RESET writes only elements of the units it acts on. The cases need the OPC as a number, which
`dsimp` gives them. -/
theorem exec_keepsOtherUnits (i : Instr) (hi : i ≠ .softReset) (s : State) :
    Completes (OtherUnitsKept i.opcode s) s (exec i s) := by
  cases i with dsimp only [Instr.opcode]
  | softReset => exact absurd rfl hi
  | nop => exact .next .refl
  | rbInit | rbPushBack | rbPushFront => exact onRing_completes (.next (.setRing .refl rfl _ _))
  | rbPopBack | rbPopFront => exact onRing_completes (.next (.setRes0 (.setRing .refl rfl _ _) _))
  | rbGet => exact onRing_completes (.ite (.next (.setRes0 .refl _)) (.fail _ _))
  | rbSet => exact onRing_completes (.ite (.next (.setRing .refl rfl _ _)) (.fail _ _))
  | rbLength => exact onRing_completes (.next (.setRes0 .refl _))
  | coefWr => exact .ite (.fail _ _) (.next (.staged .refl rfl _ _ _))
  | filtInit => exact onFilter_completes (ifInitable_completes (.next (.setFilter .refl (.inl rfl) _ _)))
  | filtValue => exact onValidFilter_completes (.next (.spend (.setRes0 (.setFilter .refl (.inl rfl) _ _) _) _))
  | filtLast => exact onValidFilter_completes (.next (.setRes0 .refl _))
  | filtSetto => exact onValidFilter_completes (.next (.setFilter .refl (.inl rfl) _ _))
  | filtShiftby => exact onValidFilter_completes (.next (.spend (.setFilter .refl (.inl rfl) _ _) _))
  | filtRead f j sel => exact execFiltRead_completes (.setRes0 .refl) f j sel
  | ctrlInit =>
    exact onController_completes (ifInitable_completes
      (.next (.setController (.setFilter .refl (.inr rfl) _ _) rfl _ _)))
  | ctrlSetPos => exact onValidController_completes (.next (.spend (.setController .refl rfl _ _) _))
  | ctrlSetVel => exact onValidController_completes (.next (.setController .refl rfl _ _))
  | ctrlUpdate =>
    exact onValidController_completes
      (.next (.spend (.setRes1 (.setRes0 (.setFilter .refl (.inr rfl) _ _) _) _) _))
  | ctrlLast => exact onValidController_completes (.next (.setRes0 .refl _))
  | ctrlSetto => exact onValidController_completes (.next (.setFilter .refl (.inr rfl) _ _))
  | ctrlShiftby => exact onValidController_completes (.next (.spend (.setFilter .refl (.inr rfl) _ _) _))
  | ctrlRead c sel => exact execCtrlRead_completes (.setRes0 .refl) c sel
  | qdInit => exact onSide_completes fun _ => .next (.spend (.setQuad .refl rfl _ _) _)
  | qdRead | qdState => exact onSide_completes fun _ => .next (.setRes0 .refl _)
  | qdAngle => exact onSide_completes fun _ => .next (.spend (.setRes0 .refl _) _)
  | qdSetScale | qdInject => exact onSide_completes fun _ => .next (.setQuad .refl rfl _ _)
  | qdReadBoth | timeRead => exact .next (.setRes1 (.setRes0 .refl _) _)
  | flagArm | flagCancel | flagDone | flagDefault => exact onFlag_completes (.next (.setFlag .refl rfl _ _))
  | flagPoll => exact onFlag_completes (.next (.setRes0 .refl _))
  | flagRead g sel => exact execFlagRead_completes (.setRes0 .refl) g sel

end Sys2Proof.Machine
end

section
/-! SUPPORT. The statement about the units. -/

namespace Sys2Proof.Proofs

open Sys2Proof Sys2Proof.Machine Sys2Proof.Claims

/-- Settles O19: a fault changes the record alone, and a command that completes wrote only in its own units. -/
theorem unitsKeepToThemselves : Obligations.UnitsKeepToThemselves := by
  intro i s t h hi
  obtain ⟨hrb, hstage, hfilt, hctrl, hqd, hflags⟩ :=
    (exec_keepsOtherUnits i hi s).of_next (.raise .refl) h
  exact ⟨hrb, hstage, hfilt, hctrl, hqd, hflags⟩

end Sys2Proof.Proofs
end

section
/-! SUPPORT. The slots the logical indices name, and each ring operation as one on the list of live elements: a push
with room adds an element, a pop takes one off, and a push to a full buffer is a pop at the other end, then a push with
room (R37, R140 to R147). -/

namespace Sys2Proof.Machine

/-! ### Indices modulo the capacity -/

section Indices

variable {n : Nat}

/-- Distinct logical indices below the capacity name distinct slots (R146). -/
theorem slotIndex_inj {a i j : Nat} (hi : i < n) (hj : j < n) : (a + i) % n = (a + j) % n ↔ i = j :=
  ⟨fun h => Nat.ModEq.eq_of_lt_of_lt (Nat.ModEq.add_left_cancel' a h) hi hj, fun h => h ▸ rfl⟩

/-- One step back from a wrapped index (R8). -/
theorem pred_of_mod {a : Nat} (hn : 0 < n) (ha : 0 < a) : (a % n + n - 1) % n = (a - 1) % n := by
  rw [Nat.add_sub_assoc hn, Nat.mod_add_mod, show a + (n - 1) = a - 1 + n by omega, Nat.add_mod_right]

/-- One step on from an index in range (R8). -/
theorem succ_mod {a : Nat} (h : a < n) : (a + 1) % n = if a = n - 1 then 0 else a + 1 := by
  split
  · rw [show a + 1 = n by omega, Nat.mod_self]
  · exact Nat.mod_eq_of_lt (by omega)

end Indices

section Rings

variable {n : Nat} {B : Ring}

/-! ### Lengths and slots -/

/-- The end lies behind the last live element (R37, R140). -/
theorem Ring.start_add_length (h : B.Wf n) : (B.start + B.length n) % n = B.stop := by
  obtain ⟨-, hstart, hstop⟩ := h
  rw [Ring.length, Nat.add_mod_mod, show B.start + (B.stop + n - B.start) = B.stop + n by omega, Nat.add_mod_right,
    Nat.mod_eq_of_lt hstop]

/-- The length is the only number below the capacity that leads from the start to the end. -/
theorem Ring.length_eq_of_stop (h : B.Wf n) {k : Nat} (hk : k < n) (hstop : (B.start + k) % n = B.stop) :
    B.length n = k :=
  (slotIndex_inj (B.length_lt (Ring.pos_of_wf h)) hk).1 ((Ring.start_add_length h).trans hstop.symm)

/-- A set element is read back, and every other reads as before (R147). -/
theorem Ring.get_put (h : B.slot.length = n) {i j : Nat} (hi : i < n) (hj : j < n) (v : Word) :
    (B.put n i v).get n j = if j = i then v else B.get n j := by
  by_cases hij : j = i
  · subst hij
    simp [Ring.get, h, Nat.mod_lt _ (Nat.zero_lt_of_lt hj)]
  · have hslot : (B.start + i) % n ≠ (B.start + j) % n := fun e => hij ((slotIndex_inj hi hj).1 e).symm
    simp [Ring.get, hij, List.getElem?_set_ne hslot]

/-- The slot at the end is the one behind the live elements. -/
theorem Ring.get_length (h : B.Wf n) : B.get n (B.length n) = B.slot.getD B.stop 0 := by
  rw [Ring.get, Ring.start_add_length h]

/-- Logical indices wrap at the capacity (R146). -/
theorem Ring.get_capacity (B : Ring) : B.get n n = B.get n 0 := by simp [Ring.get]

@[simp] theorem Ring.fresh_length (n : Nat) : (Ring.fresh n).length n = 0 := by simp [Ring.length]

@[simp] theorem Ring.fresh_get (n j : Nat) : (Ring.fresh n).get n j = 0 := by
  simp only [Ring.get, Ring.fresh_slot, List.getD_eq_getElem?_getD, List.getElem?_replicate]
  split <;> rfl

/-! ### The list of live elements -/

@[simp] theorem Ring.live_length (n : Nat) (B : Ring) : (B.live n).length = B.length n := by simp [Ring.live]

theorem Ring.live_getElem {i : Nat} (h : i < (B.live n).length) : (B.live n)[i] = B.get n i := by simp [Ring.live]

theorem Ring.live_eq_nil_iff : B.live n = [] ↔ B.length n = 0 := by
  rw [← List.length_eq_zero_iff, Ring.live_length]

@[simp] theorem Ring.fresh_live (n : Nat) : (Ring.fresh n).live n = [] := Ring.live_eq_nil_iff.2 (Ring.fresh_length n)

/-- Setting a live element sets it in the list (R147). -/
theorem Ring.put_live (h : B.Wf n) {i : Nat} (hi : i < B.length n) (v : Word) :
    (B.put n i v).live n = (B.live n).set i v := by
  have hlt := B.length_lt (Ring.pos_of_wf h)
  refine List.ext_getElem (by simp) fun j hj _ => ?_
  rw [Ring.live_length, Ring.put_length] at hj
  rw [Ring.live_getElem, Ring.get_put h.1 (by omega) (by omega), List.getElem_set, Ring.live_getElem]
  simp only [eq_comm]

/-! ### Pops -/

theorem Ring.popBack_of_empty (h : B.length n = 0) : B.popBack n = (0, B) := if_pos (Ring.isEmpty_iff.2 h)

theorem Ring.popFront_of_empty (h : B.length n = 0) : B.popFront n = (0, B) := if_pos (Ring.isEmpty_iff.2 h)

/-- A back pop answers the last live element (R144). -/
theorem Ring.popBack_of_nonempty (h : B.Wf n) (hlen : B.length n ≠ 0) :
    B.popBack n = (B.get n (B.length n - 1), { B with stop := (B.stop + n - 1) % n }) := by
  obtain ⟨h0, -⟩ | ⟨-, hpop⟩ := B.popBack_cases n
  · exact absurd h0 hlen
  have hslot : (B.stop + n - 1) % n = (B.start + (B.length n - 1)) % n := by
    rw [← Ring.start_add_length h, pred_of_mod (Ring.pos_of_wf h) (by omega), Nat.add_sub_assoc (by omega)]
  rw [hpop, Ring.get, hslot]

/-- A front pop answers live element 0 (R145). -/
theorem Ring.popFront_of_nonempty (h : B.Wf n) (hlen : B.length n ≠ 0) :
    B.popFront n = (B.get n 0, { B with start := (B.start + 1) % n }) := by
  obtain ⟨h0, -⟩ | ⟨-, hpop⟩ := B.popFront_cases n
  · exact absurd h0 hlen
  have hslot : (B.start + 0) % n = B.start := Nat.mod_eq_of_lt h.2.1
  rw [hpop, Ring.get, hslot]

/-- A front pop of a buffer that is not empty makes it one shorter (R145). -/
theorem Ring.popFront_length (h : B.Wf n) (hlen : B.length n ≠ 0) : (B.popFront n).2.length n = B.length n - 1 := by
  have hlt := B.length_lt (Ring.pos_of_wf h)
  apply Ring.length_eq_of_stop (Ring.popFront_wf h) (by omega)
  rw [Ring.popFront_of_nonempty h hlen]
  calc ((B.start + 1) % n + (B.length n - 1)) % n
      = (B.start + B.length n) % n := by rw [Nat.mod_add_mod]; congr 1; omega
    _ = B.stop := Ring.start_add_length h

/-- After a front pop, element `i` is the old element `i + 1` (R145). -/
theorem Ring.popFront_get (h : B.Wf n) (hlen : B.length n ≠ 0) (i : Nat) :
    (B.popFront n).2.get n i = B.get n (i + 1) := by
  have hslot : ((B.start + 1) % n + i) % n = (B.start + (i + 1)) % n := by
    rw [Nat.mod_add_mod, Nat.add_assoc, Nat.add_comm 1]
  rw [Ring.popFront_of_nonempty h hlen]
  exact congrArg (B.slot.getD · 0) hslot

/-- A back pop splits the live elements at the back (R144). -/
theorem Ring.live_eq_popBack (h : B.Wf n) (hlen : B.length n ≠ 0) :
    B.live n = (B.popBack n).2.live n ++ [(B.popBack n).1] := by
  have hlen' := Ring.popBack_length h hlen
  obtain ⟨k, hk⟩ := Nat.exists_eq_succ_of_ne_zero hlen
  rw [Ring.live, Ring.live, hlen', hk, Ring.popBack_of_nonempty h hlen, hk, List.range_succ]
  simp [Ring.get]

/-- A front pop splits the live elements at the front (R145). -/
theorem Ring.live_eq_popFront (h : B.Wf n) (hlen : B.length n ≠ 0) :
    B.live n = (B.popFront n).1 :: (B.popFront n).2.live n := by
  have hlen' := Ring.popFront_length h hlen
  obtain ⟨k, hk⟩ := Nat.exists_eq_succ_of_ne_zero hlen
  rw [Ring.live, Ring.live, hlen', hk, List.range_succ_eq_map, funext (Ring.popFront_get h hlen)]
  simp [Ring.popFront_of_nonempty h hlen]

/-- A back pop answers the last live element, or 0, and drops it (R144). -/
theorem Ring.popBack_live (h : B.Wf n) :
    (B.popBack n).1 = (B.live n).getLastD 0 ∧ (B.popBack n).2.live n = (B.live n).dropLast := by
  by_cases hlen : B.length n = 0
  · simp [Ring.popBack_of_empty hlen, Ring.live_eq_nil_iff.2 hlen]
  · simp [Ring.live_eq_popBack h hlen]

/-- A front pop answers the first live element, or 0, and drops it (R145). -/
theorem Ring.popFront_live (h : B.Wf n) :
    (B.popFront n).1 = (B.live n).headD 0 ∧ (B.popFront n).2.live n = (B.live n).tail := by
  by_cases hlen : B.length n = 0
  · simp [Ring.popFront_of_empty hlen, Ring.live_eq_nil_iff.2 hlen]
  · simp [Ring.live_eq_popFront h hlen]

/-! ### Back pushes -/

/-- The advanced end meets the start exactly when the buffer was full (R142). -/
theorem Ring.succ_stop_eq_start_iff (h : B.Wf n) : (B.stop + 1) % n = B.start ↔ B.length n = n - 1 := by
  rw [Ring.length_eq h]
  obtain ⟨-, hstart, hstop⟩ := h
  rw [succ_mod hstop]
  split_ifs <;> omega

/-- A back push with room sets the element behind the live ones and advances the end (R142). -/
theorem Ring.pushBack_of_lt (h : B.Wf n) (hlen : B.length n < n - 1) (v : Word) :
    B.pushBack n v = { B.put n (B.length n) v with stop := (B.stop + 1) % n } := by
  have hmeet : (B.stop + 1) % n ≠ B.start := fun e => hlen.ne ((Ring.succ_stop_eq_start_iff h).1 e)
  simp [Ring.pushBack, Ring.put, Ring.start_add_length h, hmeet]

/-- A back push to a full buffer is a front pop, then a back push with room (R142). -/
theorem Ring.pushBack_of_full (hn : 2 ≤ n) (h : B.Wf n) (hfull : B.length n = n - 1) (v : Word) :
    B.pushBack n v = (B.popFront n).2.pushBack n v := by
  have hlen : B.length n ≠ 0 := by omega
  have hmeet := (Ring.succ_stop_eq_start_iff h).2 hfull
  have hpop : ¬ (B.popFront n).2.length n = n - 1 := by rw [Ring.popFront_length h hlen]; omega
  rw [← Ring.succ_stop_eq_start_iff (Ring.popFront_wf h)] at hpop
  rw [Ring.popFront_of_nonempty h hlen] at hpop ⊢
  rw [Ring.pushBack, Ring.pushBack, if_pos hmeet, if_neg hpop]

theorem Ring.pushBack_length_of_lt (h : B.Wf n) (hlen : B.length n < n - 1) (v : Word) :
    (B.pushBack n v).length n = B.length n + 1 := by
  apply Ring.length_eq_of_stop (Ring.pushBack_wf h v) (by omega)
  rw [Ring.pushBack_of_lt h hlen, ← Ring.start_add_length h, Nat.mod_add_mod, Nat.add_assoc, Ring.put_start]

/-- A back push with room writes the element behind the live ones only (R142). -/
theorem Ring.pushBack_get_of_lt (h : B.Wf n) (hlen : B.length n < n - 1) (v : Word) {j : Nat} (hj : j < n) :
    (B.pushBack n v).get n j = if j = B.length n then v else B.get n j := by
  rw [Ring.pushBack_of_lt h hlen]
  exact Ring.get_put h.1 (by omega) hj v

theorem Ring.pushBack_live_of_lt (h : B.Wf n) (hlen : B.length n < n - 1) (v : Word) :
    (B.pushBack n v).live n = B.live n ++ [v] := by
  have hold : ∀ i ∈ List.range (B.length n), (B.pushBack n v).get n i = B.get n i := fun i hi => by
    rw [List.mem_range] at hi
    rw [Ring.pushBack_get_of_lt h hlen v (by omega), if_neg hi.ne]
  have hnew : (B.pushBack n v).get n (B.length n) = v := by
    rw [Ring.pushBack_get_of_lt h hlen v (by omega), if_pos rfl]
  rw [Ring.live, Ring.pushBack_length_of_lt h hlen, List.range_succ, List.map_append, List.map_congr_left hold]
  simp [Ring.live, hnew]

/-- A back push appends, and drops the front element of a full buffer (R142). -/
theorem Ring.pushBack_live (hn : 2 ≤ n) (h : B.Wf n) (v : Word) :
    (B.pushBack n v).live n = (if B.length n < n - 1 then B.live n else (B.live n).tail) ++ [v] := by
  have hlt := B.length_lt (Ring.pos_of_wf h)
  split
  · next hroom => exact Ring.pushBack_live_of_lt h hroom v
  · have hpop := Ring.popFront_length h (by omega)
    rw [Ring.pushBack_of_full hn h (by omega), Ring.pushBack_live_of_lt (Ring.popFront_wf h) (by omega),
      (Ring.popFront_live h).2]

theorem Ring.pushBack_length (hn : 2 ≤ n) (h : B.Wf n) (v : Word) :
    (B.pushBack n v).length n = min (B.length n + 1) (n - 1) := by
  have hlt := B.length_lt (Ring.pos_of_wf h)
  rw [← Ring.live_length, Ring.pushBack_live hn h]
  split_ifs <;> simp <;> omega

/-- The element a full back push evicts is still in its slot, which is the one at the end (R142). -/
theorem Ring.pushBack_evicted (hn : 2 ≤ n) (h : B.Wf n) (hfull : B.length n = n - 1) (v : Word) :
    (B.pushBack n v).get n (n - 1) = B.get n 0 ∧
    (B.pushBack n v).slot.getD (B.pushBack n v).stop 0 = B.get n 0 := by
  have hlen : B.length n ≠ 0 := by omega
  have hpop := Ring.popFront_length h hlen
  have hget : (B.pushBack n v).get n (n - 1) = B.get n 0 := by
    rw [Ring.pushBack_of_full hn h hfull, Ring.pushBack_get_of_lt (Ring.popFront_wf h) (by omega) v (by omega),
      if_neg (by omega), Ring.popFront_get h hlen, Nat.sub_add_cancel (by omega), Ring.get_capacity]
  have hlast : (B.pushBack n v).length n = n - 1 := by rw [Ring.pushBack_length hn h]; omega
  refine ⟨hget, ?_⟩
  rw [← Ring.get_length (Ring.pushBack_wf h v), hlast, hget]

/-- Back pushes with room for all keep push order (R158 item 1). -/
theorem Ring.foldl_pushBack_live (vs : List Word) (h : B.Wf n) (hlen : B.length n + vs.length ≤ n - 1) :
    (vs.foldl (fun B v => B.pushBack n v) B).live n = B.live n ++ vs := by
  induction vs generalizing B with
  | nil => simp
  | cons v vs ih =>
    rw [List.length_cons] at hlen
    have hpush := Ring.pushBack_length_of_lt h (by omega) v
    rw [List.foldl_cons, ih (Ring.pushBack_wf h v) (by omega), Ring.pushBack_live_of_lt h (by omega),
      List.append_assoc, List.singleton_append]

/-! ### Front pushes -/

/-- The start moved back meets the end exactly when the buffer was full (R143). -/
theorem Ring.pred_start_eq_stop_iff (h : B.Wf n) : (B.start + n - 1) % n = B.stop ↔ B.length n = n - 1 := by
  rw [Ring.length_eq h]
  obtain ⟨-, hstart, hstop⟩ := h
  rw [pred_mod hstart]
  split_ifs <;> omega

/-- A front push with room moves the start back and sets element 0 (R143). -/
theorem Ring.pushFront_of_lt (h : B.Wf n) (hlen : B.length n < n - 1) (v : Word) :
    B.pushFront n v = ({ B with start := (B.start + n - 1) % n } : Ring).put n 0 v := by
  have hmeet : (B.start + n - 1) % n ≠ B.stop := fun e => hlen.ne ((Ring.pred_start_eq_stop_iff h).1 e)
  simp [Ring.pushFront, Ring.put, hmeet]

/-- A front push to a full buffer is a back pop, then a front push with room (R143). -/
theorem Ring.pushFront_of_full (hn : 2 ≤ n) (h : B.Wf n) (hfull : B.length n = n - 1) (v : Word) :
    B.pushFront n v = (B.popBack n).2.pushFront n v := by
  have hlen : B.length n ≠ 0 := by omega
  have hmeet := (Ring.pred_start_eq_stop_iff h).2 hfull
  have hpop : ¬ (B.popBack n).2.length n = n - 1 := by rw [Ring.popBack_length h hlen]; omega
  rw [← Ring.pred_start_eq_stop_iff (Ring.popBack_wf h)] at hpop
  rw [Ring.popBack_of_nonempty h hlen] at hpop ⊢
  rw [Ring.pushFront, Ring.pushFront, if_pos hmeet, if_neg hpop]

/-- A front push with room writes element 0 only, and reads the others from the moved start (R143). -/
theorem Ring.pushFront_get_of_lt (h : B.Wf n) (hlen : B.length n < n - 1) (v : Word) {j : Nat} (hj : j < n) :
    (B.pushFront n v).get n j = if j = 0 then v else B.slot.getD (((B.start + n - 1) % n + j) % n) 0 := by
  rw [Ring.pushFront_of_lt h hlen]
  exact Ring.get_put (B := { B with start := (B.start + n - 1) % n }) h.1 (Ring.pos_of_wf h) hj v

/-- After a front push with room, the old element `i` is element `i + 1` (R143). -/
theorem Ring.pushFront_get_succ (h : B.Wf n) (hlen : B.length n < n - 1) (v : Word) {i : Nat} (hi : i + 1 < n) :
    (B.pushFront n v).get n (i + 1) = B.get n i := by
  rw [Ring.pushFront_get_of_lt h hlen v hi, if_neg (Nat.succ_ne_zero i), Ring.get, Nat.mod_add_mod,
    show B.start + n - 1 + (i + 1) = B.start + i + n by omega, Nat.add_mod_right]

theorem Ring.pushFront_live_of_lt (h : B.Wf n) (hlen : B.length n < n - 1) (v : Word) :
    (B.pushFront n v).live n = v :: B.live n := by
  have hold : ∀ i ∈ List.range (B.length n), ((B.pushFront n v).get n ∘ Nat.succ) i = B.get n i := fun i hi => by
    rw [List.mem_range] at hi
    exact Ring.pushFront_get_succ h hlen v (by omega)
  have hnew : (B.pushFront n v).get n 0 = v := by
    rw [Ring.pushFront_get_of_lt h hlen v (Ring.pos_of_wf h), if_pos rfl]
  rw [Ring.live, Ring.pushFront_length_of_lt h (by omega), List.range_succ_eq_map, List.map_cons, List.map_map,
    List.map_congr_left hold, hnew, Ring.live]

/-- A front push prepends, and drops the back element of a full buffer (R143). -/
theorem Ring.pushFront_live (hn : 2 ≤ n) (h : B.Wf n) (v : Word) :
    (B.pushFront n v).live n = v :: (if B.length n < n - 1 then B.live n else (B.live n).dropLast) := by
  have hlt := B.length_lt (Ring.pos_of_wf h)
  split
  · next hroom => exact Ring.pushFront_live_of_lt h hroom v
  · have hpop := Ring.popBack_length h (by omega)
    rw [Ring.pushFront_of_full hn h (by omega), Ring.pushFront_live_of_lt (Ring.popBack_wf h) (by omega),
      (Ring.popBack_live h).2]

theorem Ring.pushFront_length (hn : 2 ≤ n) (h : B.Wf n) (v : Word) :
    (B.pushFront n v).length n = min (B.length n + 1) (n - 1) := by
  have hlt := B.length_lt (Ring.pos_of_wf h)
  rw [← Ring.live_length, Ring.pushFront_live hn h]
  split_ifs <;> simp <;> omega

/-- Front pushes with room for all reverse push order (R158 item 2). -/
theorem Ring.foldl_pushFront_live (vs : List Word) (h : B.Wf n) (hlen : B.length n + vs.length ≤ n - 1) :
    (vs.foldl (fun B v => B.pushFront n v) B).live n = vs.reverse ++ B.live n := by
  induction vs generalizing B with
  | nil => simp
  | cons v vs ih =>
    rw [List.length_cons] at hlen
    have hpush := Ring.pushFront_length_of_lt h (by omega) v
    rw [List.foldl_cons, ih (Ring.pushFront_wf h v) (by omega), Ring.pushFront_live_of_lt h (by omega),
      List.reverse_cons, List.append_assoc, List.singleton_append]

end Rings

/-! ### The commands -/

section Commands

variable {s : State} {r i : Nat}

/-- A ring-buffer command on a buffer that exists has its effect (R334). -/
theorem onRing_of_lt (hr : r < s.cfg.numRb) (opc : Byte) (k : Out) : onRing opc r s k = k := if_pos hr

theorem exec_rbInit (hr : r < s.cfg.numRb) : exec (.rbInit r) s = .next (s.setRing r (Ring.fresh s.cfg.cap)) :=
  onRing_of_lt hr _ _

theorem exec_rbPushBack (hr : r < s.cfg.numRb) :
    exec (.rbPushBack r) s = .next (s.setRing r ((s.ring r).pushBack s.cfg.cap s.arg0)) := onRing_of_lt hr _ _

theorem exec_rbPushFront (hr : r < s.cfg.numRb) :
    exec (.rbPushFront r) s = .next (s.setRing r ((s.ring r).pushFront s.cfg.cap s.arg0)) := onRing_of_lt hr _ _

theorem exec_rbPopBack (hr : r < s.cfg.numRb) :
    exec (.rbPopBack r) s =
      .next ((s.setRing r ((s.ring r).popBack s.cfg.cap).2).setRes0 ((s.ring r).popBack s.cfg.cap).1) :=
  onRing_of_lt hr _ _

theorem exec_rbPopFront (hr : r < s.cfg.numRb) :
    exec (.rbPopFront r) s =
      .next ((s.setRing r ((s.ring r).popFront s.cfg.cap).2).setRes0 ((s.ring r).popFront s.cfg.cap).1) :=
  onRing_of_lt hr _ _

theorem exec_rbGet (hr : r < s.cfg.numRb) (hi : i < s.cfg.cap) :
    exec (.rbGet r i) s = .next (s.setRes0 ((s.ring r).get s.cfg.cap i)) :=
  (onRing_of_lt hr _ _).trans (if_pos hi)

theorem exec_rbSet (hr : r < s.cfg.numRb) (hi : i < s.cfg.cap) :
    exec (.rbSet r i) s = .next (s.setRing r ((s.ring r).put s.cfg.cap i s.arg0)) :=
  (onRing_of_lt hr _ _).trans (if_pos hi)

theorem exec_rbLength (hr : r < s.cfg.numRb) :
    exec (.rbLength r) s = .next (s.setRes0 (BitVec.ofNat 32 ((s.ring r).length s.cfg.cap))) := onRing_of_lt hr _ _

end Commands

end Sys2Proof.Machine
end

section
/-! SUPPORT. The statements about the ring buffers. -/

namespace Sys2Proof.Proofs

open Sys2Proof Sys2Proof.Machine Sys2Proof.Claims

/-- Settles O24: a full back push is a front pop and a push with room, and the pop clears no slot. -/
theorem pushBackAppendsAndEvictsTheOldest : Obligations.PushBackAppendsAndEvictsTheOldest := by
  intro n B v hn h
  exact ⟨rfl, Ring.succ_stop_eq_start_iff h, Ring.pushBack_live hn h v, Ring.pushBack_length hn h v,
    fun hfull => Ring.pushBack_evicted hn h hfull v⟩

/-- Settles O25: a full front push is a back pop and a push with room. -/
theorem pushFrontPrependsAndDropsTheBack : Obligations.PushFrontPrependsAndDropsTheBack := by
  intro n B v hn h
  exact ⟨rfl, Ring.pred_start_eq_stop_iff h, Ring.pushFront_live hn h v, Ring.pushFront_length hn h v⟩

/-- Settles O26: each pop splits the list of live elements at its end. -/
theorem popsReturnTheEndElement : Obligations.PopsReturnTheEndElement := by
  intro n B _ h
  refine ⟨fun hnil => ?_, fun l v hl => ?_, fun l v hl => ?_⟩
  · have hlen := Ring.live_eq_nil_iff.1 hnil
    exact ⟨Ring.popBack_of_empty hlen, Ring.popFront_of_empty hlen⟩
  · have hlen : B.length n ≠ 0 := by rw [← Ring.live_length, hl]; simp
    obtain ⟨hword, hrest⟩ := Ring.popBack_live h
    rw [hl] at hword hrest
    refine ⟨Prod.ext (by simpa using hword) ?_, by simpa using hrest⟩
    rw [Ring.popBack_of_nonempty h hlen]
  · have hlen : B.length n ≠ 0 := by rw [← Ring.live_length, hl]; simp
    obtain ⟨hword, hrest⟩ := Ring.popFront_live h
    rw [hl] at hword hrest
    refine ⟨Prod.ext hword ?_, hrest⟩
    rw [Ring.popFront_of_nonempty h hlen]

/-- Settles O27: distinct logical indices name distinct slots, and a set moves no index. -/
theorem setThenGetReadsBack : Obligations.SetThenGetReadsBack := by
  intro n B i j v h hi hj
  exact ⟨rfl, rfl, Ring.get_put h.1 hi hj v, Ring.put_length n B i v, rfl, rfl⟩

/-- Settles O28, by induction on the words pushed, from any number of live elements that leaves room for them. -/
theorem pushOrderIsKept : Obligations.PushOrderIsKept := by
  intro n B vs _ h hempty hroom
  have hlen : B.length n + vs.length ≤ n - 1 := by omega
  have hnil : B.live n = [] := Ring.live_eq_nil_iff.2 hempty
  constructor
  · rw [Ring.foldl_pushBack_live vs h hlen, hnil, List.nil_append]
  · rw [Ring.foldl_pushFront_live vs h hlen, hnil, List.append_nil]

/-- Settles O29: each command is its ring operation, and each ring operation one on the list of live elements. -/
theorem ringCommandsRefineABoundedDeque : Obligations.RingCommandsRefineABoundedDeque := by
  intro s r hinv hr
  have hcap := four_le_cap hinv.cfg_legal
  have h := hinv.ring_wf hr
  have hlt := (s.ring r).length_lt (Ring.pos_of_wf h)
  obtain ⟨hback, hbackLive⟩ := Ring.popBack_live h
  obtain ⟨hfront, hfrontLive⟩ := Ring.popFront_live h
  simp only [Ring.live_length]
  refine ⟨by omega, ⟨_, Ring.fresh_live _, Ring.fresh_get _, exec_rbInit hr⟩,
    ⟨_, Ring.pushBack_live (by omega) h _, exec_rbPushBack hr⟩,
    ⟨_, Ring.pushFront_live (by omega) h _, exec_rbPushFront hr⟩,
    ⟨_, hbackLive, hback ▸ exec_rbPopBack hr⟩, ⟨_, hfrontLive, hfront ▸ exec_rbPopFront hr⟩, fun i hi => ?_,
    fun i hi => ⟨_, Ring.put_live h hi _, exec_rbSet hr (hi.trans hlt)⟩, exec_rbLength hr⟩
  rw [List.getD_eq_getElem _ _ (by simpa using hi), Ring.live_getElem]
  exact exec_rbGet hr (hi.trans hlt)

/-- Settles O30: both commands act on the slot of the logical index, and neither looks at the length. -/
theorem indexedRingCommandsReachStaleSlots : Obligations.IndexedRingCommandsReachStaleSlots := by
  intro s r i hr hi
  exact ⟨exec_rbGet hr hi, exec_rbSet hr hi⟩

end Sys2Proof.Proofs
end

section
/-! SUPPORT. The filter operations on the lists of live elements: a shift, a fill, a rewriting in place, and the
difference equation as sums over two lists; and what the filter commands do where their checks pass (R170 to R176, R180
to R186, R260). -/

namespace Sys2Proof.Machine

open Sys2Proof.Claims

/-! ### Live elements -/

section Rings

variable {n : Nat} {B : Ring}

/-- A live element read by its logical index is the list's (R37, R146). -/
theorem Ring.live_getD {i : Nat} (hi : i < B.length n) : (B.live n).getD i 0 = B.get n i := by
  rw [List.getD_eq_getElem _ _ (by simpa using hi), Ring.live_getElem]

theorem Ring.live_eq_map {k : Nat} (hk : B.length n = k) : B.live n = (List.range k).map (B.get n) := hk ▸ rfl

theorem Ring.live_headD (hpos : B.length n ≠ 0) : (B.live n).headD 0 = B.get n 0 := by
  obtain ⟨k, hk⟩ := Nat.exists_eq_succ_of_ne_zero hpos
  rw [Ring.live_eq_map hk, List.range_succ_eq_map, List.map_cons, List.headD_cons]

/-- A shift is a front push with room, then a back pop (R170). -/
theorem filtShift_live (h : B.Wf n) (hpos : B.length n ≠ 0) (hroom : B.length n + 1 < n) (v : Word) :
    (filtShift n B v).live n = v :: (B.live n).dropLast := by
  have hne : B.live n ≠ [] := mt Ring.live_eq_nil_iff.1 hpos
  rw [filtShift, (Ring.popBack_live (Ring.pushFront_wf h v)).2, Ring.pushFront_live_of_lt h (by omega),
    List.dropLast_cons_of_ne_nil hne]

/-- A buffer filled with fewer words than its capacity holds those words (R141, R171). -/
theorem filled_live (v : Nat → Word) {k : Nat} (hk : k < n) : (filled n v k).live n = (List.range k).map v := by
  rw [Ring.live, filled_length v hk]
  refine List.map_congr_left fun i hi => ?_
  rw [List.mem_range] at hi
  exact filled_get v hi hk

/-- Rewriting the first `k` elements takes each from its own old value (R175, R176). -/
theorem mapLive_get (h : B.Wf n) (f : Nat → Word → Word) {j k : Nat} (hk : k ≤ n) (hj : j < n) :
    (mapLive n f B k).get n j = if j < k then f j (B.get n j) else B.get n j := by
  induction k generalizing j with
  | zero => rfl
  | succ k ih =>
    have hold := ih (by omega) (show k < n by omega)
    rw [if_neg (lt_irrefl k)] at hold
    rw [mapLive, Ring.get_put (mapLive_wf h f k).1 (by omega) hj, hold, ih (by omega) hj]
    by_cases hjk : j = k
    · subst hjk
      simp
    · simp only [if_neg hjk, show j < k + 1 ↔ j < k by omega]

/-- Rewriting all live elements maps the list of them. -/
theorem mapLive_live (h : B.Wf n) (f : Nat → Word → Word) {k : Nat} (hk : B.length n = k) :
    (mapLive n f B k).live n = (B.live n).mapIdx f := by
  subst hk
  have hlt := B.length_lt (Ring.pos_of_wf h)
  refine List.ext_getElem (by simp [mapLive_length]) fun i hi _ => ?_
  rw [Ring.live_length, mapLive_length] at hi
  rw [Ring.live_getElem, mapLive_get h f hlt.le (hi.trans hlt), if_pos hi, List.getElem_mapIdx, Ring.live_getElem]

/-- Setting all live elements to one word leaves that many copies of it (R175). -/
theorem mapLive_const_live (h : B.Wf n) (v : Word) {k : Nat} (hk : B.length n = k) :
    (mapLive n (fun _ _ => v) B k).live n = List.replicate k v := by
  rw [mapLive_live h _ hk]
  exact List.ext_getElem (by simp [hk]) (by simp)

end Rings

/-! ### The difference equation -/

/-- Two functions listed over ranges, paired and numbered: the shorter range counts. -/
theorem zipIdx_zip_map_range {α β : Type} (f : Nat → α) (g : Nat → β) {k m : Nat} (h : k ≤ m) :
    (((List.range k).map f).zip ((List.range m).map g)).zipIdx = (List.range k).map fun i => ((f i, g i), i) :=
  List.ext_getElem (by simp [h]) (by simp)

/-- The numerator sum folds over its index (R172). -/
theorem sumB_eq_foldl (nan b x : Nat → Word) (k : Nat) :
    sumB nan b x k =
      (List.range k).foldl (fun acc i => fadd (nan (2 * i + 1)) acc (fmul (nan (2 * i)) (b i) (x i))) 0 := by
  induction k with
  | zero => rfl
  | succ k ih => rw [sumB, ih, List.range_succ, List.foldl_append, List.foldl_cons, List.foldl_nil]

/-- The denominator terms fold over their index (R172). -/
theorem subA_eq_foldl (nan a y : Nat → Word) (t : Word) (k : Nat) :
    subA nan a y t k =
      (List.range k).foldl (fun acc i => fsub (nan (2 * i + 1)) acc (fmul (nan (2 * i)) (a (i + 1)) (y i))) t := by
  induction k with
  | zero => rfl
  | succ k ih => rw [subA, ih, List.range_succ, List.foldl_append, List.foldl_cons, List.foldl_nil]

/-- Over buffers of `order + 1` live elements the output of a filter is the direct form of R172 on their lists. -/
theorem filtOutput_eq_directForm {n : Nat} {F : Filt} {X : Ring} (nan : Nat → Word)
    (hb : F.bufB.length n = F.order + 1) (ha : F.bufA.length n = F.order + 1) (hx : X.length n = F.order + 1)
    (hy : F.bufOut.length n = F.order + 1) :
    filtOutput n nan F X = directForm nan (F.bufB.live n) (F.bufA.live n) (X.live n) (F.bufOut.live n) := by
  have htail : (F.bufA.live n).tail = (List.range F.order).map fun i => F.bufA.get n (i + 1) := by
    rw [Ring.live_eq_map ha, List.range_succ_eq_map, List.map_cons, List.tail_cons, List.map_map]
    rfl
  have hhead : (F.bufA.live n).headD 0 = F.bufA.get n 0 := Ring.live_headD (by omega)
  have hdiv : 2 * (F.order + 1) + 2 * F.order = 4 * F.order + 2 := by omega
  simp only [directForm, htail, hhead, Ring.live_length, hb, ha, Nat.add_sub_cancel, hdiv]
  rw [Ring.live_eq_map hb, Ring.live_eq_map hx, Ring.live_eq_map hy, zipIdx_zip_map_range _ _ le_rfl,
    zipIdx_zip_map_range _ _ (Nat.le_succ _), List.foldl_map, List.foldl_map, filtOutput, sumB_eq_foldl, subA_eq_foldl]
  rfl

section Values

variable {c : Config} {F : Filt}

/-- A buffer with a live element for every index up to the order has room for a shift (R7, R170). -/
theorem Filt.Wf.shift_live (h : F.Wf c) (hc : configLegal c = true) {B : Ring} (hB : B.Wf c.cap)
    (hlen : B.length c.cap = F.order + 1) (v : Word) :
    (filtShift c.cap B v).live c.cap = v :: (B.live c.cap).dropLast := by
  have hroom := h.order_add_two_lt hc
  exact filtShift_live hB (by omega) (by omega) v

/-- The input history after `filt_value` (R172). -/
theorem filtValue_bufIn_live (hc : configLegal c = true) (h : F.Wf c) (hv : F.valid = true) (nan : Nat → Word)
    (x : Word) : (filtValue c.cap nan F x).2.bufIn.live c.cap = x :: (F.bufIn.live c.cap).dropLast :=
  h.shift_live hc h.bufIn_wf (h.bufIn_length hv) x

/-- The output history after `filt_value` has the output in front (R172). -/
theorem filtValue_bufOut_live (hc : configLegal c = true) (h : F.Wf c) (hv : F.valid = true) (nan : Nat → Word)
    (x : Word) : (filtValue c.cap nan F x).2.bufOut.live c.cap =
      (filtValue c.cap nan F x).1 :: (F.bufOut.live c.cap).dropLast :=
  h.shift_live hc h.bufOut_wf (h.bufOut_length hv) _

/-- The output of `filt_value` is the direct form over the shifted input and the old output history (R172). -/
theorem filtValue_output (hc : configLegal c = true) (h : F.Wf c) (hv : F.valid = true) (nan : Nat → Word)
    (x : Word) : (filtValue c.cap nan F x).1 = directForm nan (F.bufB.live c.cap) (F.bufA.live c.cap)
      (x :: (F.bufIn.live c.cap).dropLast) (F.bufOut.live c.cap) := by
  have hroom := h.order_add_two_lt hc
  have hlen := h.bufIn_length hv
  have hshift := filtShift_length h.bufIn_wf (by omega) x
  rw [← filtValue_bufIn_live hc h hv nan x]
  exact filtOutput_eq_directForm nan (h.bufB_length hv) (h.bufA_length hv) (hshift.trans hlen) (h.bufOut_length hv)

end Values

/-! ### The commands where their checks pass -/

section Commands

variable {s t : State} {f o : Nat}

theorem State.Inv.filter_setFilter_self (h : s.Inv) (hf : f < s.cfg.numFilt) (F : Filt) :
    (s.setFilter f F).filter f = F := by
  rw [State.filter_setFilter s f f F (h.filt_length ▸ hf), if_pos rfl]

/-- A filter command on a filter that exists goes on to its own checks (R334). -/
theorem onFilter_of_lt (hf : f < s.cfg.numFilt) (opc : Byte) (k : Out) : onFilter opc f s k = k := if_pos hf

theorem onController_of_lt {c : Nat} (hc : c < s.cfg.numCtrl) (opc : Byte) (k : Out) : onController opc c s k = k :=
  if_pos hc

/-- An init whose order is in range and whose staged `a_0` is not a zero has its effect (R181, R260). -/
theorem ifInitable_of_initable (ho : o ≤ s.cfg.maxOrder) (ha : isZero (s.stagedA 0) = false) (opc : Byte) (k : Out) :
    ifInitable opc o s k = k := by
  simp [ifInitable, Nat.not_lt.2 ho, ha]

theorem exec_coefWr {i : Nat} (hi : i ≤ s.cfg.maxOrder) (bank : Bank) :
    exec (.coefWr bank i) s = .next (s.stage bank i s.arg0) := if_neg (Nat.not_lt.2 hi)

theorem exec_filtInit (hf : f < s.cfg.numFilt) (ho : o ≤ s.cfg.maxOrder) (ha : isZero (s.stagedA 0) = false) :
    exec (.filtInit f o) s = .next (s.setFilter f (filtInit s o)) :=
  (onFilter_of_lt hf _ _).trans (ifInitable_of_initable ho ha _ _)

theorem exec_ctrlInit {c : Nat} (hc : c < s.cfg.numCtrl) (ho : o ≤ s.cfg.maxOrder)
    (ha : isZero (s.stagedA 0) = false) (m : SelRule) :
    exec (.ctrlInit c o m) s =
      .next ((s.setFilter c (filtInit s o)).setController c (Ctrl.init s.arg0 s.arg1 m)) :=
  (onController_of_lt hc _ _).trans (ifInitable_of_initable ho ha _ _)

theorem exec_filtValue (hf : f < s.cfg.numFilt) (hv : (s.filter f).valid = true) :
    exec (.filtValue f) s = .next (((s.setFilter f (filtValue s.cfg.cap s.nan (s.filter f) s.arg0).2).setRes0
      (filtValue s.cfg.cap s.nan (s.filter f) s.arg0).1).spend (valueDraws (s.filter f).order)) :=
  onValidFilter_of_valid hf hv _ _

theorem exec_filtLast (hf : f < s.cfg.numFilt) (hv : (s.filter f).valid = true) :
    exec (.filtLast f) s = .next (s.setRes0 ((s.filter f).bufOut.get s.cfg.cap 0)) := onValidFilter_of_valid hf hv _ _

theorem exec_filtSetto (hf : f < s.cfg.numFilt) (hv : (s.filter f).valid = true) :
    exec (.filtSetto f) s = .next (s.setFilter f (filtSetto s.cfg.cap (s.filter f) s.arg0)) :=
  onValidFilter_of_valid hf hv _ _

theorem exec_filtShiftby (hf : f < s.cfg.numFilt) (hv : (s.filter f).valid = true) :
    exec (.filtShiftby f) s = .next ((s.setFilter f (filtShiftby s.cfg.cap s.nan (s.filter f) s.arg0)).spend
      (shiftbyDraws (s.filter f).order)) :=
  onValidFilter_of_valid hf hv _ _

/-- FILT_READ of the configuration asks nothing of the filter (R186). -/
theorem exec_filtRead_cfg (hf : f < s.cfg.numFilt) :
    exec (.filtRead f 0 4) s = .next (s.setRes0 (s.filter f).cfgWord) := onFilter_of_lt hf _ _

/-- FILT_READ of an element up to the order reads the buffer that the selector names (R186). -/
theorem exec_filtRead_element (hf : f < s.cfg.numFilt) (hv : (s.filter f).valid = true) {i sel : Nat}
    (hi : i ≤ (s.filter f).order) (hsel : sel < 4) :
    exec (.filtRead f i sel) s = .next (s.setRes0 (((s.filter f).buffer sel).get s.cfg.cap i)) := by
  have hknown : ¬ 5 ≤ sel := by omega
  refine (onFilter_of_lt hf _ _).trans ?_
  rw [if_neg hknown, if_neg hsel.ne, hv, if_neg (by decide), if_neg (Nat.not_lt.2 hi)]

/-! ### What they leave in the filter -/

/-- Each buffer of a valid filter has a live element for every index up to the order (R40). -/
theorem Filt.Wf.buffer_length {c : Config} {F : Filt} (h : F.Wf c) (hv : F.valid = true) (sel : Nat) :
    (F.buffer sel).length c.cap = F.order + 1 := by
  match sel with
  | 0 => exact h.bufB_length hv
  | 1 => exact h.bufA_length hv
  | 2 => exact h.bufIn_length hv
  | _ + 3 => exact h.bufOut_length hv

/-- A legal configuration has rings of at most 256 slots, so an order fits the 8-bit field of CFG (R7, R186). -/
theorem Filt.Wf.order_lt {c : Config} {F : Filt} (h : F.Wf c) (hc : configLegal c = true) : F.order < 2 ^ 8 := by
  obtain ⟨-, hlog, -⟩ := (configLegal_iff c).1 hc
  have hcap : c.cap ≤ 2 ^ 8 := Nat.pow_le_pow_right (by decide) hlog
  have hroom := h.order_add_two_lt hc
  omega

/-- The CFG word is the number with `valid` above the eight bits of the order (R186). -/
theorem Filt.cfgWord_eq {F : Filt} (h : F.order < 2 ^ 8) :
    F.cfgWord = BitVec.ofNat 32 ((if F.valid then 256 else 0) + F.order) := by
  apply BitVec.eq_of_toNat_eq
  have hfield : (BitVec.ofNat 8 F.order).toNat = F.order := Nat.mod_eq_of_lt h
  have hjoin (a : Nat) : a <<< 8 ||| F.order = a * 256 + F.order := by
    rw [← Nat.shiftLeft_add_eq_or_of_lt h, Nat.shiftLeft_eq]
  rw [Filt.cfgWord, BitVec.toNat_append, hfield, hjoin, BitVec.toNat_append, BitVec.toNat_ofNat]
  cases F.valid <;> simp <;> omega

/-- The first words of the staging bank, listed by index. -/
theorem map_getD_range {l : List Word} {k : Nat} (h : k ≤ l.length) :
    (List.range k).map (fun i => l.getD i 0) = l.take k := by
  refine List.ext_getElem (by simp [h]) fun i hi _ => ?_
  have hlt : i < l.length := by rw [List.length_map, List.length_range] at hi; omega
  simp [hlt]

/-- A filter made by `filt_init` is initialised, if the staging bank holds the coefficients (R171). -/
theorem initialised_of_filtInit (hs : s.Inv) (ho : o ≤ s.cfg.maxOrder) (hcfg : t.cfg = s.cfg)
    (ht : t.filter f = filtInit s o) : Initialised s t f o := by
  have hcap := four_le_cap hs.cfg_legal
  have hroom : o + 1 < s.cfg.cap := by unfold Config.maxOrder at ho; omega
  simp only [Initialised, liveB, liveA, liveIn, liveOut, ht, hcfg]
  refine ⟨rfl, rfl, ?_, ?_, ?_, ?_⟩
  · exact (filled_live _ hroom).trans (map_getD_range (by rw [hs.stageB_length]; omega))
  · exact (filled_live _ hroom).trans (map_getD_range (by rw [hs.stageA_length]; omega))
  all_goals exact (filled_live _ hroom).trans (by simp)

end Commands

end Sys2Proof.Machine
end

section
/-! SUPPORT. The statements about the filters, and the init of a controller. -/

namespace Sys2Proof.Proofs

open Sys2Proof Sys2Proof.Machine Sys2Proof.Claims

/-- Settles O31: the push has room, so it is the pop that drops the oldest sample. -/
theorem shiftDropsTheOldestSample : Obligations.ShiftDropsTheOldestSample := by
  intro n B v h hpos hroom
  exact ⟨rfl, filtShift_live h (by omega) (by omega) v, filtShift_length h (by omega) v⟩

/-- Settles O32: an index in range passes the one check. -/
theorem coefWrStagesOneCoefficient : Obligations.CoefWrStagesOneCoefficient := fun _ _ hi =>
  ⟨exec_coefWr hi .numer, exec_coefWr hi .denom⟩

/-- Settles O33: each buffer of the new filter is filled in order, from the staging bank or with zeros. -/
theorem filtInitCopiesTheStagingBank : Obligations.FiltInitCopiesTheStagingBank := by
  intro s f o hs hf ho ha
  have hfilter := hs.filter_setFilter_self hf (filtInit s o)
  refine ⟨_, exec_filtInit hf ho ha, initialised_of_filtInit hs ho rfl hfilter, ?_⟩
  rw [hfilter]
  rfl

/-- Settles O34: the input history is shifted first, the output is the direct form over the lists, and it is shifted
into the output history. -/
theorem filtValueIsTheDifferenceEquation : Obligations.FiltValueIsTheDifferenceEquation := by
  intro s f hs hf hv x y
  have hwf := hs.filter_wf hf
  have hy : (filtValue s.cfg.cap s.nan (s.filter f) s.arg0).1 = y := filtValue_output hs.cfg_legal hwf hv _ _
  refine ⟨_, exec_filtValue hf hv, ?_⟩
  generalize ht : ((s.setFilter f _).setRes0 _).spend _ = t
  have hcfg : t.cfg = s.cfg := ht ▸ rfl
  have hfilter : t.filter f = (filtValue s.cfg.cap s.nan (s.filter f) s.arg0).2 := ht ▸ hs.filter_setFilter_self hf _
  obtain ⟨hb, ha, horder, hvalid⟩ := filtValue_sameDesign s.cfg.cap s.nan (s.filter f) s.arg0
  simp only [liveIn, liveOut, liveB, liveA, hcfg, hfilter]
  refine ⟨filtValue_bufIn_live hs.cfg_legal hwf hv _ _, ?_, by rw [hb], by rw [ha], hvalid.trans hv, horder, ?_⟩
  · rw [← hy, filtValue_bufOut_live hs.cfg_legal hwf hv]
  · rw [← ht, ← hy]
    rfl

/-- Settles O35: each selector names a buffer with an element for every index up to the order. -/
theorem filterReads : Obligations.FilterReads := by
  intro s f hs hf
  have hwf := hs.filter_wf hf
  refine ⟨?_, fun hv => ⟨?_, fun i hi => ?_⟩⟩
  · rw [exec_filtRead_cfg hf, Filt.cfgWord_eq (hwf.order_lt hs.cfg_legal)]
    rfl
  · rw [exec_filtLast hf hv, Ring.live_headD (by rw [hwf.bufOut_length hv]; omega)]
    rfl
  · have hread (sel : Nat) (hsel : sel < 4) : exec (.filtRead f i sel) s =
        .next { s with res0 := (((s.filter f).buffer sel).live s.cfg.cap).getD i 0 } := by
      rw [exec_filtRead_element hf hv hi hsel, Ring.live_getD (by rw [hwf.buffer_length hv]; omega)]
      rfl
    exact ⟨hread 0 (by decide), hread 1 (by decide), hread 2 (by decide), hread 3 (by decide)⟩

/-- Settles O36: a valid filter has `order + 1` live elements in each history, which are the ones overwritten. -/
theorem filtSettoFillsBothHistories : Obligations.FiltSettoFillsBothHistories := by
  intro s f hs hf hv k
  have hwf := hs.filter_wf hf
  have hfilter := hs.filter_setFilter_self hf (filtSetto s.cfg.cap (s.filter f) s.arg0)
  refine ⟨_, exec_filtSetto hf hv, ?_⟩
  simp only [liveIn, liveOut, hfilter]
  exact ⟨mapLive_const_live hwf.bufIn_wf _ (hwf.bufIn_length hv),
    mapLive_const_live hwf.bufOut_wf _ (hwf.bufOut_length hv), rfl⟩

/-- Settles O37: as O36, with each element mapped from its own old value. -/
theorem filtShiftbyAddsToBothHistories : Obligations.FiltShiftbyAddsToBothHistories := by
  intro s f hs hf hv
  have hwf := hs.filter_wf hf
  have hfilter : ((s.setFilter f (filtShiftby s.cfg.cap s.nan (s.filter f) s.arg0)).spend
      (shiftbyDraws (s.filter f).order)).filter f = _ := hs.filter_setFilter_self hf _
  refine ⟨_, exec_filtShiftby hf hv, ?_⟩
  simp only [liveIn, liveOut, hfilter]
  exact ⟨mapLive_live hwf.bufIn_wf _ (hwf.bufIn_length hv), mapLive_live hwf.bufOut_wf _ (hwf.bufOut_length hv), rfl⟩

/-- Settles O38: the filter is made as by FILT_INIT, and the controller's write leaves it. -/
theorem ctrlInitMakesControllerAndFilter : Obligations.CtrlInitMakesControllerAndFilter := by
  intro s c o m hs hc ho ha
  have hfilter : ((s.setFilter c (filtInit s o)).setController c (Ctrl.init s.arg0 s.arg1 m)).filter c = filtInit s o :=
    hs.filter_setFilter_self (hs.lt_numFilt hc) _
  refine ⟨_, exec_ctrlInit hc ho ha m, initialised_of_filtInit hs ho rfl hfilter, ?_⟩
  rw [hfilter]
  rfl

end Sys2Proof.Proofs
end

section
/-! SUPPORT. The decoder's commands where the side exists, the sample as a step, and a run of samples on one side as
the fold of `qd_sample` over them (R211, R219). -/

namespace Sys2Proof.Machine

open Sys2Proof.Claims

variable {s : State} {sd : Side} {n : Nat}

/-! ### The commands on a side that exists -/

theorem onSide_of_some (hn : sideOf n = some sd) (opc : Byte) (s : State) (k : Side → Out) : onSide opc n s k = k sd := by
  rw [onSide, hn]

theorem exec_qdInit (hn : sideOf n = some sd) : exec (.qdInit n) s = .next (s.initSide sd) := onSide_of_some hn _ _ _

theorem exec_qdRead (hn : sideOf n = some sd) : exec (.qdRead n) s = .next (s.setRes0 (s.quad sd).count) :=
  onSide_of_some hn _ _ _

theorem State.spend_setRes0 (v : Word) (k : Nat) : (s.setRes0 v).spend k = { s with res0 := v, draws := s.draws + k } := rfl

theorem exec_qdAngle (hn : sideOf n = some sd) : exec (.qdAngle n) s = .next
    { s with
      res0 := fmul (Config.nanDraw s.draws) (i2f (s.quad sd).count.toInt) (s.quad sd).scale, draws := s.draws + 1 } := by
  have hstep : exec (.qdAngle n) s = .next ((s.setRes0 (qdAngle (s.nan 0) (s.quad sd))).spend 1) :=
    onSide_of_some hn _ _ _
  rw [hstep, State.spend_setRes0, qdAngle, State.nan, Nat.add_zero]

theorem exec_qdSetScale (hn : sideOf n = some sd) :
    exec (.qdSetScale n) s = .next (s.setQuad sd { s.quad sd with scale := s.arg0 }) := onSide_of_some hn _ _ _

theorem exec_qdInject (hn : sideOf n = some sd) (x b : Bool) :
    exec (.qdInject n x b) s = .next (s.sampleSide sd x b) := onSide_of_some hn _ _ _

theorem Quad.levelWord_eq_bits3 (q : Quad) : q.levelWord = bits3 q.xLast q.bLast q.aLast := by
  unfold Quad.levelWord
  generalize q.xLast = x, q.bLast = b, q.aLast = a
  revert x b a
  decide

theorem exec_qdState (hn : sideOf n = some sd) : exec (.qdState n) s =
    .next (s.setRes0 (bits3 (s.quad sd).xLast (s.quad sd).bLast (s.quad sd).aLast)) := by
  rw [← Quad.levelWord_eq_bits3]
  exact onSide_of_some hn _ _ _

/-! ### Samples -/

/-- A sample of the saved levels counts nothing and has nothing new to save (R211). -/
theorem qdSample_of_saved_levels {q : Quad} (h : q.Wf) (save : Bool) : qdSample save q q.xLast q.bLast = q := by
  have hsample := qdSample_of_no_edge save h.symm
  rw [← h] at hsample
  exact hsample.trans (ite_self q)

/-- A sample of a block that is not in reset is the side's sample (R80, R211). -/
theorem step_sample {x b : Bool} {rest : List Event} (h : Next s (.sample sd x b) rest) :
    step s = .next (({ s with agenda := rest } : State).sampleSide sd x b) := by
  obtain ⟨hcoming, hreset⟩ := h
  rw [step_coming hcoming, perform_released runWord _ (by exact hreset)]

/-- The samples, each as its XOR signal and B, taken by one side in order. -/
def qdSamples (save : Bool) (q : Quad) (l : List (Bool × Bool)) : Quad :=
  l.foldl (fun q p => qdSample save q p.1 p.2) q

theorem qdSamples_cons (save : Bool) (q : Quad) (p : Bool × Bool) (l : List (Bool × Bool)) :
    qdSamples save q (p :: l) = qdSamples save (qdSample save q p.1 p.2) l := rfl

/-- A later write to a side is the one that stays, and it commutes with a change of the list of events. -/
theorem sampleSide_setQuad (rest rest' : List Event) (x b : Bool) (Q : Quad) :
    ({ ({ s with agenda := rest } : State).sampleSide sd x b with agenda := rest' } : State).setQuad sd Q =
      ({ s with agenda := rest' } : State).setQuad sd Q := by
  cases sd <;> rfl

theorem quad_sampleSide (x b : Bool) :
    (s.sampleSide sd x b).quad sd = qdSample s.cfg.qdSaveOnNoEdge (s.quad sd) x b := State.quad_setQuad_self ..

/-- A run of samples of one side is their fold on that side, and changes nothing else but the list of events. -/
theorem run_samples (l : List (Bool × Bool)) {rest : List Event} (hc : configLegal s.cfg = true)
    (hreset : s.resetHeld = false) (ha : s.agenda = l.map (fun p => .sample sd p.1 p.2) ++ rest) :
    run l.length s = .next (({ s with agenda := rest } : State).setQuad sd
      (qdSamples s.cfg.qdSaveOnNoEdge (s.quad sd) l)) := by
  induction l generalizing s with
  | nil =>
    rw [List.map_nil, List.nil_append] at ha
    subst ha
    cases sd <;> rfl
  | cons p l ih =>
    refine (run_succ _ _ _).2 ⟨_, step_sample ⟨⟨hc, ha⟩, hreset⟩, ?_⟩
    refine (ih (by simpa using hc) (by simpa using hreset) (by simp)).trans ?_
    rw [sampleSide_setQuad, quad_sampleSide, State.sampleSide_cfg]
    cases sd <;> rfl

/-! ### A path of samples that all count alike -/

/-- A side that has saved the levels `p` of A and B, consistently (R44). -/
def Quad.atLevels (p : Bool × Bool) (count scale : Word) : Quad := ⟨p.1, p.2, p.1 ^^ p.2, count, scale⟩

/-- The sample, as its XOR signal and B, of the levels `p` of A and B (R210). -/
def sampleOfLevels (p : Bool × Bool) : Bool × Bool := (p.1 ^^ p.2, p.2)

/-- From saved levels `p`, a sample of the levels `p'` has an edge of the XOR signal and changes the count by `d` (R211). -/
abbrev CountsBy (d : Int) (p p' : Bool × Bool) : Prop :=
  (p'.1 ^^ p'.2) ≠ (p.1 ^^ p.2) ∧ bitInt (p'.1 ^^ p.2) - bitInt (p.1 ^^ p'.2) = d

theorem qdSample_of_countsBy {d : Int} {p p' : Bool × Bool} (h : CountsBy d p p') (save : Bool) (count scale : Word) :
    qdSample save (Quad.atLevels p count scale) (sampleOfLevels p').1 (sampleOfLevels p').2 =
      Quad.atLevels p' (count + BitVec.ofInt 32 d) scale := by
  obtain ⟨hedge, rfl⟩ := h
  exact qdSample_of_edge save hedge

/-- Along a path of levels whose every sample counts `d`, the count changes by `d` for each sample. -/
theorem qdSamples_of_path {d : Int} (save : Bool) (scale : Word) (l : List (Bool × Bool)) (p : Bool × Bool)
    (hpath : (p :: l).IsChain (CountsBy d)) (count : Word) :
    qdSamples save (Quad.atLevels p count scale) (l.map sampleOfLevels) =
      Quad.atLevels ((p :: l).getLast (List.cons_ne_nil p l)) (count + BitVec.ofInt 32 (l.length * d)) scale := by
  induction l generalizing p count with
  | nil => simp [qdSamples]
  | cons p' l ih =>
    obtain ⟨hstep, hrest⟩ := List.isChain_cons_cons.1 hpath
    have hcount : count + BitVec.ofInt 32 d + BitVec.ofInt 32 (l.length * d) =
        count + BitVec.ofInt 32 ((p' :: l).length * d) := by
      rw [BitVec.add_assoc, ← BitVec.ofInt_add, List.length_cons, Nat.cast_succ, Int.add_mul, Int.one_mul, Int.add_comm d]
    rw [List.map_cons, qdSamples_cons, qdSample_of_countsBy hstep, ih p' hrest, hcount, List.getLast_cons_cons]

/-- A run of samples along a path that returns to the saved levels changes the count alone (R219). -/
theorem run_closedPath {d : Int} (l : List (Bool × Bool)) {p : Bool × Bool} {count scale : Word} {rest : List Event}
    (hpath : (p :: l).IsChain (CountsBy d)) (hclosed : (p :: l).getLast (List.cons_ne_nil p l) = p)
    (hc : configLegal s.cfg = true) (hreset : s.resetHeld = false) (hquad : s.quad sd = Quad.atLevels p count scale)
    (ha : s.agenda = (l.map sampleOfLevels).map (fun x => .sample sd x.1 x.2) ++ rest) :
    run l.length s = .next (({ s with agenda := rest } : State).setQuad sd
      (Quad.atLevels p (count + BitVec.ofInt 32 (l.length * d)) scale)) := by
  have hrun := run_samples _ hc hreset ha
  rwa [List.length_map, hquad, qdSamples_of_path _ _ _ _ hpath, hclosed] at hrun

end Sys2Proof.Machine
end

section
/-! SUPPORT. The statements about the quadrature decoder. -/

namespace Sys2Proof.Proofs

open Sys2Proof Sys2Proof.Machine Sys2Proof.Claims

/-- Settles O45: each cycle is a closed path of four levels whose samples all count +1, or all -1. -/
theorem fullCycleCountsFour : Obligations.FullCycleCountsFour := by
  intro s sd rest hc hreset ha hb hx after
  have hlevels (n : Word) : { s.quad sd with count := n } = Quad.atLevels (false, false) n (s.quad sd).scale := by
    simp [Quad.atLevels, ha, hb, hx]
  have hminus (n : Word) : n + BitVec.ofInt 32 (4 * -1) = n - 4 := (BitVec.sub_eq_add_neg n 4).symm
  simp only [after, hlevels, ← hminus]
  exact ⟨run_closedPath [(true, false), (true, true), (false, true), (false, false)] (d := 1) (by decide) rfl hc hreset
      (hlevels _),
    run_closedPath [(false, true), (true, true), (true, false), (false, false)] (d := -1) (by decide) rfl hc hreset
      (hlevels _)⟩

/-- Settles O46: both sides exist, so none of these commands faults. -/
theorem qdReadsAndScale : Obligations.QdReadsAndScale := fun _ =>
  ⟨exec_qdRead (sd := .left) rfl, exec_qdRead (sd := .right) rfl, rfl,
    exec_qdAngle (sd := .left) rfl, exec_qdAngle (sd := .right) rfl,
    exec_qdSetScale (sd := .left) rfl, exec_qdSetScale (sd := .right) rfl,
    exec_qdState (sd := .left) rfl, exec_qdState (sd := .right) rfl⟩

/-- Settles O47: the drawn levels are saved consistently, so a sample of them has no edge. -/
theorem qdInitTakesThePinLevels : Obligations.QdInitTakesThePinLevels := by
  intro s p fresh
  have hwf (q : Quad) : (fresh q).Wf := by simp [fresh, Quad.Wf]
  exact ⟨exec_qdInit (sd := .left) rfl, exec_qdInit (sd := .right) rfl,
    fun save q => qdSample_of_saved_levels (hwf q) save⟩

/-- Settles O48: the command and the event are the same sample of the side. -/
theorem injectIsASampleEvent : Obligations.InjectIsASampleEvent := by
  intro s x b next
  refine ⟨exec_qdInject (sd := .left) rfl x b, exec_qdInject (sd := .right) rfl x b, fun n sd rest hn h => ?_⟩
  rw [step_sample h, exec_qdInject hn]

end Sys2Proof.Proofs
end

section
/-! SUPPORT. The controller's commands where their checks pass, and the target of its update (R250). -/

namespace Sys2Proof.Machine

open Sys2Proof.Claims

/-! ### The target -/

section Targets

variable {C : Ctrl}

/-- The two rules of R250 by which a controller tracks a velocity. -/
theorem velocityActive_iff : velocityActive C = true ↔
    (C.sel = .sign ∧ fgt C.targetVel 0 = true) ∨ (C.sel = .mode ∧ C.mode = .vel) := by
  unfold velocityActive
  cases h : C.sel <;> simp

theorem activeTarget_of_active (h : velocityActive C = true) (nan : Nat → Word) (m dt : Word) :
    activeTarget nan C m dt = fadd (nan 1) m (fmul (nan 0) dt C.targetVel) := if_pos h

theorem activeTarget_of_not_active (h : ¬ velocityActive C = true) (nan : Nat → Word) (m dt : Word) :
    activeTarget nan C m dt = C.targetPos := if_neg h

end Targets

/-! ### The commands -/

section Commands

variable {s : State} {c : Nat}

theorem exec_ctrlSetPos (hc : c < s.cfg.numCtrl) (hv : (s.controller c).valid = true) :
    exec (.ctrlSetPos c) s = .next ((s.setController c { s.controller c with
      targetVel := 0, targetPos := fmul (s.nan 0) s.arg0 (s.controller c).period, mode := .pos }).spend 1) :=
  onValidController_of_valid hc hv _ _

theorem exec_ctrlSetVel (hc : c < s.cfg.numCtrl) (hv : (s.controller c).valid = true) :
    exec (.ctrlSetVel c) s =
      .next (s.setController c { s.controller c with targetVel := s.arg0, mode := .vel }) :=
  onValidController_of_valid hc hv _ _

/-- The output of the controller's filter on the measurement in ARG0, and the filter after it (R251, step 1). -/
def State.filteredMeasurement (s : State) (c : Nat) : Word × Filt := filtValue s.cfg.cap s.nan (s.filter c) s.arg0

/-- The word CTRL_UPDATE leaves in RES0; its draws come after the filter's (R251, step 3). -/
def State.updateCommand (s : State) (c : Nat) : Word :=
  ctrlCommand (fun k => s.nan (valueDraws (s.filter c).order + k)) (s.controller c) s.arg0 s.arg1
    (s.filteredMeasurement c).1

theorem exec_ctrlUpdate (hc : c < s.cfg.numCtrl) (hv : (s.controller c).valid = true) :
    exec (.ctrlUpdate c) s = .next ((((s.setFilter c (s.filteredMeasurement c).2).setRes0 (s.updateCommand c)).setRes1
      (s.filteredMeasurement c).1).spend (updateDraws (s.filter c).order)) :=
  onValidController_of_valid hc hv _ _

/-- CTRL_READ asks only that the controller exists, and that the selector names a field (R267). -/
theorem exec_ctrlRead (hc : c < s.cfg.numCtrl) (sel : Nat) : exec (.ctrlRead c sel) s =
    match sel with
    | 0 => .next (s.setRes0 (s.controller c).kp)
    | 1 => .next (s.setRes0 (s.controller c).period)
    | 2 => .next (s.setRes0 (s.controller c).targetPos)
    | 3 => .next (s.setRes0 (s.controller c).targetVel)
    | 4 => .next (s.setRes0 (s.controller c).cfgWord)
    | _ => .next (s.raise .badSelect 0x37) :=
  onController_of_lt hc _ _

theorem Ctrl.cfgWord_eq_bits3 (C : Ctrl) :
    C.cfgWord = bits3 (decide (C.sel = .mode)) (decide (C.mode = .vel)) C.valid := by
  unfold Ctrl.cfgWord
  generalize decide (C.sel = .mode) = x, decide (C.mode = .vel) = y, C.valid = z
  revert x y z
  decide

end Commands

end Sys2Proof.Machine
end

section
/-! SUPPORT. The statements about single commands of a controller. -/

namespace Sys2Proof.Proofs

open Sys2Proof Sys2Proof.Machine Sys2Proof.Claims

/-- Settles O39: past its checks each command writes the one controller. -/
theorem setTargets : Obligations.SetTargets := fun _ _ hc hv =>
  ⟨exec_ctrlSetPos hc hv, exec_ctrlSetVel hc hv⟩

/-- Settles O42: a selector in range reads its field, and the CFG word is its three bits. -/
theorem ctrlReadReadsEachField : Obligations.CtrlReadReadsEachField := fun _ _ hc =>
  ⟨exec_ctrlRead hc 0, exec_ctrlRead hc 1, exec_ctrlRead hc 2, exec_ctrlRead hc 3,
    Ctrl.cfgWord_eq_bits3 _ ▸ exec_ctrlRead hc 4⟩

/-- Settles O40: by R42 the wrapped filter accepts FILT_VALUE, and the target of the update is the one R250 selects. -/
theorem ctrlUpdateIsProportionalOnTheFilteredMeasurement :
    Obligations.CtrlUpdateIsProportionalOnTheFilteredMeasurement := by
  intro s c hs hc hv C nan velocity
  obtain ⟨hf, hfv⟩ := hs.wrapped hc hv
  have hactive : velocityActive C = true ↔ velocity := velocityActive_iff
  refine ⟨_, _, activeTarget nan C s.arg0 s.arg1, exec_filtValue hf hfv, exec_ctrlUpdate hc hv, fun h => ?_,
    fun h => ?_, rfl⟩
  · exact activeTarget_of_active (hactive.2 h) ..
  · exact activeTarget_of_not_active (mt hactive.1 h) ..

end Sys2Proof.Proofs
end

section
/-! SUPPORT. Two blocks that differ in one controller's velocity target and mode, and track the same target: every
command that does not read the two fields, every event and every run takes them the same way (R250, R268 item 2). -/

namespace Sys2Proof.Machine

open Sys2Proof.Claims

/-! ### Controllers and states that track the same target -/

/-- The controllers differ at most in velocity target and mode, and every update has the same target in both (R250). -/
structure Ctrl.SameTracking (C D : Ctrl) : Prop where
  valid : D.valid = C.valid
  kp : D.kp = C.kp
  period : D.period = C.period
  targetPos : D.targetPos = C.targetPos
  sel : D.sel = C.sel
  target : ∀ nan m dt, activeTarget nan D m dt = activeTarget nan C m dt

/-- The states differ at most in controller `c`, which tracks the same target in both. -/
def State.SameTracking (c : Nat) (s u : State) : Prop :=
  ∃ D, u = s.setController c D ∧ (s.controller c).SameTracking D

theorem Ctrl.SameTracking.refl (C : Ctrl) : C.SameTracking C := ⟨rfl, rfl, rfl, rfl, rfl, fun _ _ _ => rfl⟩

theorem Ctrl.SameTracking.fields {C D : Ctrl} (h : C.SameTracking D) :
    D = { C with targetVel := D.targetVel, mode := D.mode } := by
  rw [← h.valid, ← h.kp, ← h.period, ← h.targetPos, ← h.sel]

/-- With the sign rule and no velocity above zero the target is the position target, whatever the mode (R250). -/
theorem Ctrl.sameTracking_of_sign {C : Ctrl} (hsel : C.sel = .sign) (hC : fgt C.targetVel 0 = false) {v : Word}
    (hv : fgt v 0 = false) (m : CtrlMode) : C.SameTracking { C with targetVel := v, mode := m } := by
  have hidle : ¬ velocityActive C = true := by simp only [velocityActive, hsel, hC]; decide
  have hidle' : ¬ velocityActive { C with targetVel := v, mode := m } = true := by
    simp only [velocityActive, hsel, hv]; decide
  refine ⟨rfl, rfl, rfl, rfl, rfl, fun nan x dt => ?_⟩
  rw [activeTarget_of_not_active hidle, activeTarget_of_not_active hidle']

theorem State.setController_self (s : State) (c : Nat) : s.setController c (s.controller c) = s := by
  have hset : s.ctrl.set c (s.controller c) = s.ctrl := by
    refine List.ext_getElem (List.length_set ..) fun i _ hi => ?_
    by_cases e : c = i
    · subst e
      simp [State.controller, hi]
    · exact List.getElem_set_ne e _
  rw [State.setController, hset]

theorem State.quad_setController (s : State) (c : Nat) (C : Ctrl) (sd : Side) :
    (s.setController c C).quad sd = s.quad sd := by cases sd <;> rfl

namespace State.SameTracking

variable {c : Nat} {s u t t' : State}

theorem refl (c : Nat) (s : State) : s.SameTracking c s := ⟨_, (s.setController_self c).symm, .refl _⟩

/-- The relation is the one the claim speaks of, with the targets added. -/
theorem alikeButVelocity (h : s.SameTracking c u) : AlikeButVelocity c s u := by
  obtain ⟨D, rfl, hD⟩ := h
  exact ⟨D.targetVel, D.mode, by rw [← hD.fields]; rfl⟩

theorem controller_of_ne (h : s.SameTracking c u) {c' : Nat} (hne : c' ≠ c) : u.controller c' = s.controller c' := by
  obtain ⟨D, rfl, -⟩ := h
  exact State.controller_setController_of_ne hne D

/-- A write past the end of the list of controllers is none, so no bound on `c` is needed. -/
theorem controller (h : s.SameTracking c u) (c' : Nat) : (s.controller c').SameTracking (u.controller c') := by
  by_cases hne : c' = c
  · subst hne
    obtain ⟨D, rfl, hD⟩ := h
    by_cases hlen : c' < s.ctrl.length
    · rwa [State.controller_setController _ _ _ _ hlen, if_pos rfl]
    · rw [State.setController, List.set_eq_of_length_le (Nat.not_lt.1 hlen)]
      exact .refl _
  · exact h.controller_of_ne hne ▸ .refl _

/-! ### What keeps the relation -/

/-- An update that neither touches nor reads the controllers. -/
theorem of_sameCtrl (h : s.SameTracking c u) (hctrl : t.ctrl = s.ctrl) (ht' : t' = { t with ctrl := u.ctrl }) :
    t.SameTracking c t' := by
  obtain ⟨D, rfl, hD⟩ := h
  refine ⟨D, by rw [ht', State.setController_ctrl, State.setController, hctrl], ?_⟩
  rwa [State.controller, hctrl]

theorem setRes0 (h : s.SameTracking c u) {v v' : Word} (hv : v' = v) : (s.setRes0 v).SameTracking c (u.setRes0 v') := by
  obtain ⟨D, rfl, hD⟩ := h
  exact ⟨D, hv ▸ rfl, hD⟩

theorem setRes1 (h : s.SameTracking c u) (v : Word) : (s.setRes1 v).SameTracking c (u.setRes1 v) := by
  obtain ⟨D, rfl, hD⟩ := h
  exact ⟨D, rfl, hD⟩

theorem spend (h : s.SameTracking c u) (k : Nat) : (s.spend k).SameTracking c (u.spend k) := by
  obtain ⟨D, rfl, hD⟩ := h
  exact ⟨D, rfl, hD⟩

theorem setFilter (h : s.SameTracking c u) (f : Nat) (F : Filt) : (s.setFilter f F).SameTracking c (u.setFilter f F) := by
  obtain ⟨D, rfl, hD⟩ := h
  exact ⟨D, rfl, hD⟩

theorem raise (h : s.SameTracking c u) (code : ErrCode) (info : Byte) :
    (s.raise code info).SameTracking c (u.raise code info) := by
  obtain ⟨D, rfl, hD⟩ := h
  exact ⟨D, rfl, hD⟩

theorem setController (h : s.SameTracking c u) (c' : Nat) {E E' : Ctrl} (hE : E' = E) :
    (s.setController c' E).SameTracking c (u.setController c' E') := by
  obtain ⟨D, rfl, hD⟩ := h
  subst hE
  by_cases hne : c' = c
  · subst hne
    have hover : (s.setController c' D).setController c' E' = s.setController c' E' := by
      simp only [State.setController, List.set_set]
    exact hover ▸ refl c' _
  · refine ⟨D, ?_, ?_⟩
    · simp only [State.setController, List.set_comm _ _ (Ne.symm hne)]
    · rwa [State.controller_setController_of_ne (Ne.symm hne)]

/-- The update's word does not tell the two states apart. -/
theorem updateCommand_eq (h : s.SameTracking c u) (c' : Nat) : u.updateCommand c' = s.updateCommand c' := by
  have hC := h.controller c'
  obtain ⟨D, rfl, -⟩ := h
  unfold State.updateCommand ctrlCommand
  rw [hC.target, hC.kp]
  rfl

end State.SameTracking

/-! ### Outcomes that are alike -/

/-- Both go on to states that track the same target, or both stop for the same reason. -/
inductive SameWay (c : Nat) : Out → Out → Prop
  | next {t t' : State} (h : t.SameTracking c t') : SameWay c (.next t) (.next t')
  | fault (r : Fault) : SameWay c (.fault r) (.fault r)
  | refused (r : Refusal) : SameWay c (.refused r) (.refused r)

namespace SameWay

variable {c n : Nat} {s u : State} {opc : Byte} {k k' o o' : Out}

theorem next_of_next {t : State} (h : SameWay c o o') (ho : o = .next t) :
    ∃ t', o' = .next t' ∧ t.SameTracking c t' := by
  cases h with
  | next h => exact ⟨_, rfl, next_inj.1 ho ▸ h⟩
  | fault | refused => cases ho

theorem fault_of_fault {r : Fault} (h : SameWay c o o') (ho : o = .fault r) : o' = .fault r := by
  cases h with
  | fault => exact ho
  | next | refused => cases ho

theorem failed (h : s.SameTracking c u) (code : ErrCode) (opc : Byte) : SameWay c (fail code opc s) (fail code opc u) :=
  .next (h.raise code opc)

theorem ite {p : Prop} [Decidable p] (h : SameWay c k k') (ho : SameWay c o o') :
    SameWay c (if p then k else o) (if p then k' else o') := by
  split
  · exact h
  · exact ho

theorem onRing (h : s.SameTracking c u) (hk : SameWay c k k') : SameWay c (onRing opc n s k) (onRing opc n u k') := by
  obtain ⟨D, rfl, hD⟩ := h
  exact .ite hk (.failed ⟨D, rfl, hD⟩ _ _)

theorem onFilter (h : s.SameTracking c u) (hk : SameWay c k k') :
    SameWay c (onFilter opc n s k) (onFilter opc n u k') := by
  obtain ⟨D, rfl, hD⟩ := h
  exact .ite hk (.failed ⟨D, rfl, hD⟩ _ _)

theorem onController (h : s.SameTracking c u) (hk : SameWay c k k') :
    SameWay c (onController opc n s k) (onController opc n u k') := by
  obtain ⟨D, rfl, hD⟩ := h
  exact .ite hk (.failed ⟨D, rfl, hD⟩ _ _)

theorem onFlag (h : s.SameTracking c u) (hk : SameWay c k k') : SameWay c (onFlag opc n s k) (onFlag opc n u k') := by
  obtain ⟨D, rfl, hD⟩ := h
  exact .ite hk (.failed ⟨D, rfl, hD⟩ _ _)

theorem onSide {k k' : Side → Out} (h : s.SameTracking c u) (hk : ∀ sd, SameWay c (k sd) (k' sd)) :
    SameWay c (onSide opc n s k) (onSide opc n u k') := by
  unfold Machine.onSide
  cases sideOf n with
  | none => exact .failed h _ _
  | some sd => exact hk sd

theorem onValidFilter (h : s.SameTracking c u) (hk : SameWay c k k') :
    SameWay c (onValidFilter opc n s k) (onValidFilter opc n u k') := by
  refine .onFilter h ?_
  obtain ⟨D, rfl, hD⟩ := h
  exact .ite hk (.failed ⟨D, rfl, hD⟩ _ _)

theorem onValidController (h : s.SameTracking c u) (hk : SameWay c k k') :
    SameWay c (onValidController opc n s k) (onValidController opc n u k') := by
  have hvalid : (u.controller n).valid = (s.controller n).valid := (h.controller n).valid
  refine .onController h ?_
  rw [hvalid]
  exact .ite hk (.failed h _ _)

theorem ifInitable (h : s.SameTracking c u) (hk : SameWay c k k') :
    SameWay c (ifInitable opc n s k) (ifInitable opc n u k') := by
  obtain ⟨D, rfl, hD⟩ := h
  exact .ite (.failed ⟨D, rfl, hD⟩ _ _) (.ite (.failed ⟨D, rfl, hD⟩ _ _) hk)

end SameWay

/-! ### The commands -/

section Commands

variable {c : Nat} {s u : State}

/-- CTRL_READ tells the two states apart only by that controller's TVEL and CFG (R267). -/
theorem execCtrlRead_sameWay (h : s.SameTracking c u) {c' sel : Nat} (hread : c' = c → sel ≠ 3 ∧ sel ≠ 4) :
    SameWay c (execCtrlRead c' sel s) (execCtrlRead c' sel u) := by
  have hC := h.controller c'
  have hother (hsel : sel = 3 ∨ sel = 4) : u.controller c' = s.controller c' :=
    h.controller_of_ne fun e => hsel.elim (hread e).1 (hread e).2
  refine .onController h ?_
  match sel with
  | 0 => exact .next (h.setRes0 hC.kp)
  | 1 => exact .next (h.setRes0 hC.period)
  | 2 => exact .next (h.setRes0 hC.targetPos)
  | 3 => exact .next (h.setRes0 (congrArg Ctrl.targetVel (hother (.inl rfl))))
  | 4 => exact .next (h.setRes0 (congrArg Ctrl.cfgWord (hother (.inr rfl))))
  | _ + 5 => exact .failed h _ _

theorem execFiltRead_sameWay (h : s.SameTracking c u) (f j sel : Nat) :
    SameWay c (execFiltRead f j sel s) (execFiltRead f j sel u) := by
  obtain ⟨D, rfl, -⟩ := id h
  exact .onFilter h (.ite (.failed h _ _) (.ite (.ite (.next (h.of_sameCtrl rfl rfl)) (.failed h _ _))
    (.ite (.failed h _ _) (.ite (.failed h _ _) (.next (h.of_sameCtrl rfl rfl))))))

theorem execFlagRead_sameWay (h : s.SameTracking c u) (g sel : Nat) :
    SameWay c (execFlagRead g sel s) (execFlagRead g sel u) := by
  obtain ⟨D, rfl, -⟩ := id h
  refine .onFlag h ?_
  match sel with
  | 0 | 1 | 2 | 3 | 4 => exact .next (h.of_sameCtrl rfl rfl)
  | _ + 5 => exact .failed h _ _

/-- Every command but a CTRL_READ of that controller's TVEL or CFG: those of the other units do not see the controllers,
an update sees the target, and a command that sets the targets sets them both. -/
theorem exec_sameWay (h : s.SameTracking c u) (i : Instr) (hread : ∀ sel, i = .ctrlRead c sel → sel ≠ 3 ∧ sel ≠ 4) :
    SameWay c (exec i s) (exec i u) := by
  obtain ⟨D, rfl, -⟩ := id h
  cases i with
  | nop => exact .next h
  | softReset => exact .next (.refl c s.applyReset)
  | rbInit | rbPushBack | rbPushFront | rbPopBack | rbPopFront | rbLength =>
    exact .onRing h (.next (h.of_sameCtrl rfl rfl))
  | rbGet | rbSet => exact .onRing h (.ite (.next (h.of_sameCtrl rfl rfl)) (.failed h _ _))
  | coefWr bank => cases bank <;> exact .ite (.failed h _ _) (.next (h.of_sameCtrl rfl rfl))
  | filtInit => exact .onFilter h (.ifInitable h (.next (h.of_sameCtrl rfl rfl)))
  | filtValue | filtLast | filtSetto | filtShiftby => exact .onValidFilter h (.next (h.of_sameCtrl rfl rfl))
  | filtRead f j sel => exact execFiltRead_sameWay h f j sel
  | ctrlInit c' o m =>
    exact .onController h (.ifInitable h (.next ((h.setFilter c' (filtInit s o)).setController c' rfl)))
  | ctrlSetPos c' =>
    refine .onValidController h (.next ((h.setController c' ?_).of_sameCtrl rfl rfl))
    rw [(h.controller c').fields]
    rfl
  | ctrlSetVel c' =>
    refine .onValidController h (.next (h.setController c' ?_))
    rw [(h.controller c').fields]
    rfl
  | ctrlUpdate c' =>
    exact .onValidController h (.next ((((h.setFilter c' _).setRes0 (h.updateCommand_eq c')).setRes1 _).spend _))
  | ctrlLast | ctrlSetto | ctrlShiftby => exact .onValidController h (.next (h.of_sameCtrl rfl rfl))
  | ctrlRead c' sel => exact execCtrlRead_sameWay h fun e => hread sel (e ▸ rfl)
  | qdInit | qdSetScale | qdInject =>
    refine .onSide h fun sd => ?_
    cases sd <;> exact .next (h.of_sameCtrl rfl rfl)
  | qdRead => exact .onSide h fun sd => .next (h.setRes0 (congrArg Quad.count (s.quad_setController c D sd)))
  | qdAngle =>
    exact .onSide h fun sd =>
      .next ((h.setRes0 (congrArg (qdAngle (s.nan 0)) (s.quad_setController c D sd))).spend 1)
  | qdState => exact .onSide h fun sd => .next (h.setRes0 (congrArg Quad.levelWord (s.quad_setController c D sd)))
  | qdReadBoth | timeRead => exact .next (h.of_sameCtrl rfl rfl)
  | flagArm | flagCancel | flagPoll | flagDone | flagDefault => exact .onFlag h (.next (h.of_sameCtrl rfl rfl))
  | flagRead g sel => exact execFlagRead_sameWay h g sel

end Commands

/-! ### The events to come -/

/-- If the outcome is a next state, it has the configuration and the list of events of `s`. -/
def KeepsAgenda (s : State) (o : Out) : Prop := ∀ t, o = .next t → t.cfg = s.cfg ∧ t.agenda = s.agenda

section Agenda

variable {s t : State}

theorem KeepsAgenda.next (hcfg : t.cfg = s.cfg) (hagenda : t.agenda = s.agenda) : KeepsAgenda s (.next t) :=
  fun _ e => next_inj.1 e ▸ ⟨hcfg, hagenda⟩

theorem KeepsAgenda.fault (r : Fault) : KeepsAgenda s (.fault r) := fun _ => nofun

theorem KeepsAgenda.ite {p : Prop} [Decidable p] {k k' : Out} (h : KeepsAgenda s k) (h' : KeepsAgenda s k') :
    KeepsAgenda s (if p then k else k') := by
  split
  · exact h
  · exact h'

theorem hostRead_keepsAgenda (addr size : Nat) (s : State) : KeepsAgenda s (hostRead addr size s) := by
  obtain ⟨reg, -, -, e⟩ | ⟨-, -, e⟩ | ⟨-, e⟩ := hostRead_cases addr size s <;> rw [e]
  · exact .next (s.readOut_cfg reg) (s.readOut_agenda reg)
  · exact .next rfl rfl
  · exact .fault _

theorem runWord_keepsAgenda (w : Word) (s : State) : KeepsAgenda s (runWord w s) := by
  obtain ⟨i, -, e⟩ | ⟨err, -, e⟩ := runWord_cases w s <;> rw [e]
  · intro t h
    obtain ⟨hcfg, -, hagenda, -⟩ := Proofs.commandsKeepOperandsAndTime i s t h
    exact ⟨hcfg, hagenda⟩
  · exact .next rfl rfl

theorem hostWrite_keepsAgenda (addr size : Nat) (v : Word) (s : State) :
    KeepsAgenda s (hostWrite runWord addr size v s) := by
  obtain e | e | e | e | e | e := hostWrite_cases runWord addr size v s <;> rw [e]
  · exact runWord_keepsAgenda v s
  · exact .next rfl rfl
  · exact .next rfl rfl
  · exact .next (s.clearFaults_cfg v) (s.clearFaults_agenda v)
  · exact .next rfl rfl
  · exact .fault _

/-- No event changes the configuration or the events to come (R7, R80). -/
theorem perform_keepsAgenda (e : Event) (s : State) : KeepsAgenda s (perform runWord e s) := by
  cases e with
  | read addr size => exact .ite (.fault _) (hostRead_keepsAgenda addr size s)
  | write addr size v => exact .ite (.fault _) (hostWrite_keepsAgenda addr size v s)
  | sample sd x b =>
    obtain ⟨-, e⟩ | ⟨-, e⟩ := agentStep_cases s (s.sampleSide sd x b) <;> rw [perform, e]
    · exact .next (s.sampleSide_cfg sd x b) (s.sampleSide_agenda sd x b)
    · exact .next rfl rfl
  | tick =>
    obtain ⟨-, e⟩ | ⟨-, e⟩ := agentStep_cases s { s with time := s.time.tick s.cfg.ticksPerMs } <;> rw [perform, e] <;>
      exact .next rfl rfl
  | resetAssert => exact .next rfl rfl
  | resetRelease => obtain ⟨-, e⟩ | ⟨-, e⟩ := s.releaseReset_cases <;> rw [perform, e] <;> exact .next rfl rfl

/-- A step keeps the configuration, and the events still to come were to come before it (R80). -/
theorem step_agenda_subset (h : step s = .next t) : t.cfg = s.cfg ∧ t.agenda ⊆ s.agenda := by
  obtain ⟨-, ⟨-, rfl⟩ | ⟨e, rest, hagenda, hperform⟩⟩ := step_next h
  · exact ⟨rfl, List.Subset.refl _⟩
  · obtain ⟨hcfg, hrest⟩ := perform_keepsAgenda e _ t hperform
    exact ⟨hcfg, hrest ▸ hagenda ▸ List.subset_cons_self e rest⟩

end Agenda

/-! ### Events, steps and runs -/

/-- The event is a host's command to read controller `c`'s TVEL or CFG (R267). -/
def ReadsVelocity (cfg : Config) (c : Nat) (e : Event) : Prop :=
  e = commandEvent cfg (encode (.ctrlRead c 3)) ∨ e = commandEvent cfg (encode (.ctrlRead c 4))

section Runs

variable {c : Nat} {s u t : State}

theorem runWord_sameWay (h : s.SameTracking c u) {w : Word}
    (hread : ¬ ReadsVelocity s.cfg c (commandEvent s.cfg w)) : SameWay c (runWord w s) (runWord w u) := by
  cases hdec : decode w with
  | error e =>
    rw [runWord_error hdec, runWord_error hdec]
    exact .next (h.raise _ _)
  | ok i =>
    rw [runWord_ok hdec, runWord_ok hdec]
    refine exec_sameWay h i fun sel hi => ?_
    have hw : encode (.ctrlRead c sel) = w := hi ▸ (Proofs.encodeOfDecodeIsTheWord w i hdec).2
    refine ⟨fun e => hread (.inl ?_), fun e => hread (.inr ?_)⟩ <;> rw [← hw, e]

theorem hostRead_sameWay (h : s.SameTracking c u) (addr size : Nat) :
    SameWay c (hostRead addr size s) (hostRead addr size u) := by
  obtain ⟨D, rfl, -⟩ := id h
  simp only [hostRead, State.setController_cfg]
  refine .ite ?_ (.fault _)
  cases regAt (addr - s.cfg.base) size with
  | none => exact .next (h.of_sameCtrl rfl rfl)
  | some reg => cases reg <;> exact .next (h.of_sameCtrl rfl rfl)

/-- The one write that runs a word is a host's command, so a write that reads no velocity runs no such command (R76). -/
theorem hostWrite_sameWay (h : s.SameTracking c u) {addr size : Nat} {v : Word}
    (hread : ¬ ReadsVelocity s.cfg c (.write addr size v)) :
    SameWay c (hostWrite runWord addr size v s) (hostWrite runWord addr size v u) := by
  obtain ⟨D, rfl, -⟩ := id h
  by_cases hwin : inWindow s.cfg addr = true
  · simp only [hostWrite, State.setController_cfg, hwin, if_true]
    cases hreg : regAt (addr - s.cfg.base) size with
    | none => exact .next (h.raise _ _)
    | some reg =>
      cases reg with
      | cmd =>
        obtain ⟨rfl, hoff⟩ := regAt_eq_some_iff.1 hreg
        obtain ⟨hlow, -⟩ := of_decide_eq_true hwin
        have hbase : addr = s.cfg.base := Nat.le_antisymm (Nat.sub_eq_zero_iff_le.1 hoff) hlow
        subst hbase
        exact runWord_sameWay h hread
      | arg0 | arg1 => exact .next (h.of_sameCtrl rfl rfl)
      | status => exact .next (h.of_sameCtrl (State.clearFaults_ctrl ..) (by unfold State.clearFaults; split <;> rfl))
      | res0 | res1 | param0 | param1 => exact .next (h.raise _ _)
  · simp only [hostWrite, State.setController_cfg, hwin, if_false, Bool.false_eq_true]
    exact .fault _

theorem agentStep_sameWay (h : s.SameTracking c u) {t t' : State} (ht : t.SameTracking c t') :
    SameWay c (agentStep s t) (agentStep u t') := by
  obtain ⟨D, rfl, -⟩ := id h
  unfold agentStep
  rw [State.setController_resetHeld]
  split
  · exact .next h
  · exact .next ht

/-- A release from assertion resets both blocks to one state, and any other changes neither (R370, R371). -/
theorem releaseReset_sameTracking (h : s.SameTracking c u) : s.releaseReset.SameTracking c u.releaseReset := by
  obtain ⟨D, rfl, -⟩ := id h
  unfold State.releaseReset
  rw [State.setController_resetHeld]
  split
  · exact .refl c _
  · exact h

/-- Every event but a command that reads that controller's TVEL or CFG (R5, R370). -/
theorem perform_sameWay (h : s.SameTracking c u) {e : Event} (hread : ¬ ReadsVelocity s.cfg c e) :
    SameWay c (perform runWord e s) (perform runWord e u) := by
  obtain ⟨D, rfl, -⟩ := id h
  cases e with
  | read addr size => exact .ite (.fault _) (hostRead_sameWay h addr size)
  | write addr size v => exact .ite (.fault _) (hostWrite_sameWay h hread)
  | sample sd x b => cases sd <;> exact agentStep_sameWay h (h.of_sameCtrl rfl rfl)
  | tick => exact agentStep_sameWay h (h.of_sameCtrl rfl rfl)
  | resetAssert => exact .next (h.of_sameCtrl rfl rfl)
  | resetRelease => exact .next (releaseReset_sameTracking h)

theorem step_sameWay (h : s.SameTracking c u) (hread : ∀ e ∈ s.agenda, ¬ ReadsVelocity s.cfg c e) :
    SameWay c (step s) (step u) := by
  obtain ⟨D, rfl, -⟩ := id h
  unfold step
  rw [State.setController_agenda]
  refine .ite ?_ (.refused _)
  cases hagenda : s.agenda with
  | nil => exact .next h
  | cons e rest =>
    exact perform_sameWay (s := { s with agenda := rest }) (h.of_sameCtrl rfl rfl)
      (hread e (hagenda ▸ List.mem_cons_self))

/-- Every run whose events do not read that controller's TVEL or CFG. -/
theorem run_sameWay (k : Nat) (h : s.SameTracking c u) (hread : ∀ e ∈ s.agenda, ¬ ReadsVelocity s.cfg c e) :
    SameWay c (run k s) (run k u) := by
  induction k generalizing s u with
  | zero => exact .next h
  | succ k ih =>
    have hstep : SameWay c (Sys2Proof.core.step s) (Sys2Proof.core.step u) := step_sameWay h hread
    simp only [run, Host.Core.run]
    generalize hs : Sys2Proof.core.step s = o at hstep ⊢
    generalize Sys2Proof.core.step u = o' at hstep ⊢
    cases hstep with
    | next ht =>
      obtain ⟨hcfg, hagenda⟩ := step_agenda_subset hs
      exact ih ht fun e he => hcfg ▸ hread e (hagenda he)
    | fault r => exact .fault r
    | refused r => exact .refused r

end Runs

end Sys2Proof.Machine
end

section
/-! SUPPORT. The statement about a velocity that is not above zero. -/

namespace Sys2Proof.Proofs

open Sys2Proof Sys2Proof.Machine Sys2Proof.Claims

/-- Settles O43: before and after the command the controller tracks its position target, and neither an update nor a
run of other accesses tells the two states apart. -/
theorem nonPositiveVelocityKeepsPositionMode : Obligations.NonPositiveVelocityKeepsPositionMode := by
  intro s u c _ hc hv hsel hidle harg hexec
  obtain rfl := next_inj.1 ((exec_ctrlSetVel hc hv).symm.trans hexec)
  have hsame : s.SameTracking c (s.setController c { s.controller c with targetVel := s.arg0, mode := .vel }) :=
    ⟨_, rfl, Ctrl.sameTracking_of_sign hsel hidle harg .vel⟩
  refine ⟨fun m dt => ?_, fun hvel hcfg k => ?_⟩
  · have hsame' := hsame.of_sameCtrl (t := { s with arg0 := m, arg1 := dt }) rfl rfl
    exact ⟨_, _, exec_ctrlUpdate hc hv, exec_ctrlUpdate hc ((hsame'.controller c).valid.trans hv),
      hsame'.updateCommand_eq c, rfl, rfl⟩
  · have hread : ∀ e ∈ s.agenda, ¬ ReadsVelocity s.cfg c e := by
      rintro e he (rfl | rfl)
      · exact hvel he
      · exact hcfg he
    have hrun := run_sameWay k hsame hread
    refine ⟨fun t ht => ?_, fun r hr => hrun.fault_of_fault hr⟩
    obtain ⟨t', ht', h⟩ := hrun.next_of_next ht
    exact ⟨t', ht', h.alikeButVelocity⟩

end Sys2Proof.Proofs
end

section
/-! SUPPORT. The time as a count of ticks, a run of ticks, and the elapsed time of a flag after it (R45, R290 to
R292). -/

namespace Sys2Proof.Machine

open Sys2Proof.Claims

/-! ### One tick -/

section Tick

variable {F : Nat} {t last : TimePoint}

/-- A tick that completes a millisecond (R291). -/
theorem TimePoint.tick_of_carry (h : t.fine.toNat + 1 = F) : t.tick F = ⟨t.coarse + 1, 0⟩ := if_pos h

/-- A tick within a millisecond (R291). -/
theorem TimePoint.tick_of_no_carry (h : t.fine.toNat + 1 ≠ F) : t.tick F = ⟨t.coarse, t.fine + 1⟩ := if_neg h

/-- Within a millisecond the fine count, below `F`, does not wrap: `F` fits 16 bits (R7, R45). -/
theorem toNat_fine_add_one (hF : F ≤ 65535) (ht : t.fine.toNat < F) : (t.fine + 1).toNat = t.fine.toNat + 1 :=
  BitVec.toNat_add_of_lt (show t.fine.toNat + 1 < 2 ^ 16 by omega)

/-- A tick adds one to the total count, modulo the count of 2^32 milliseconds. -/
theorem totalTicks_tick (hF : F ≤ 65535) (ht : t.fine.toNat < F) :
    totalTicks F (t.tick F) = (totalTicks F t + 1) % (2 ^ 32 * F) := by
  by_cases hcarry : t.fine.toNat + 1 = F
  · have hnext : totalTicks F t + 1 = (t.coarse.toNat + 1) * F := by
      rw [totalTicks, Nat.add_assoc, hcarry, Nat.succ_mul]
    rw [TimePoint.tick_of_carry hcarry, hnext, Nat.mul_mod_mul_right, totalTicks, BitVec.toNat_add]
    rfl
  · have hbelow : totalTicks F t + 1 < (t.coarse.toNat + 1) * F := by
      rw [totalTicks, Nat.succ_mul]
      omega
    have hrange : (t.coarse.toNat + 1) * F ≤ 2 ^ 32 * F := Nat.mul_le_mul_right F t.coarse.isLt
    rw [TimePoint.tick_of_no_carry hcarry, Nat.mod_eq_of_lt (hbelow.trans_le hrange), totalTicks, totalTicks,
      toNat_fine_add_one hF ht, Nat.add_assoc]

/-- A tick adds one to the elapsed ticks, while these stay clear of the wrap of the millisecond counter (R291, R292). -/
theorem elapsedTicks_tick (hF : F ≤ 65535) (ht : t.fine.toNat < F) (hlast : last.fine.toNat < F)
    (hclear : elapsedTicks F t last + 1 ≤ (2 ^ 32 - 1) * (F : Int)) :
    elapsedTicks F (t.tick F) last = elapsedTicks F t last + 1 := by
  unfold elapsedTicks at hclear ⊢
  by_cases hcarry : t.fine.toNat + 1 = F
  · have hnext : t.coarse + 1 - last.coarse = t.coarse - last.coarse + 1 := BitVec.add_sub_comm
    have hd : (t.coarse - last.coarse).toNat + 1 < 2 ^ 32 := by
      by_contra hwrap
      have hmax : (t.coarse - last.coarse).toNat = 2 ^ 32 - 1 := by
        have hlt := (t.coarse - last.coarse).isLt
        omega
      rw [hmax] at hclear
      push_cast at hclear
      omega
    have hF' : (F : Int) = t.fine.toNat + 1 := by exact_mod_cast hcarry.symm
    rw [TimePoint.tick_of_carry hcarry, hnext, BitVec.toNat_add_of_lt (y := (1 : Word)) hd,
      show (1 : Word).toNat = 1 from rfl, show (0 : Half).toNat = 0 from rfl]
    push_cast
    linear_combination hF'
  · rw [TimePoint.tick_of_no_carry hcarry, toNat_fine_add_one hF ht]
    push_cast
    ring

end Tick

/-! ### Several ticks -/

/-- The time after `n` ticks. -/
def TimePoint.ticks (F n : Nat) (t : TimePoint) : TimePoint := (TimePoint.tick F)^[n] t

section Ticks

variable {F n : Nat} {t last : TimePoint}

theorem TimePoint.ticks_zero : t.ticks F 0 = t := rfl

theorem TimePoint.ticks_succ : t.ticks F (n + 1) = (t.ticks F n).tick F := Function.iterate_succ_apply' ..

theorem TimePoint.ticks_fine_lt (h : t.fine.toNat < F) : (t.ticks F n).fine.toNat < F := by
  induction n with
  | zero => exact h
  | succ n ih => exact TimePoint.ticks_succ ▸ TimePoint.tick_fine_lt ih

theorem totalTicks_lt (h : t.fine.toNat < F) : totalTicks F t < 2 ^ 32 * F := by
  have hrange : (t.coarse.toNat + 1) * F ≤ 2 ^ 32 * F := Nat.mul_le_mul_right F t.coarse.isLt
  rw [Nat.succ_mul] at hrange
  rw [totalTicks]
  omega

/-- `n` ticks add `n` to the total count, modulo the count of 2^32 milliseconds. -/
theorem totalTicks_ticks (hF : F ≤ 65535) (ht : t.fine.toNat < F) :
    totalTicks F (t.ticks F n) = (totalTicks F t + n) % (2 ^ 32 * F) := by
  induction n with
  | zero => exact (Nat.mod_eq_of_lt (totalTicks_lt ht)).symm
  | succ n ih =>
    rw [TimePoint.ticks_succ, totalTicks_tick hF (TimePoint.ticks_fine_lt ht), ih, Nat.mod_add_mod, Nat.add_assoc]

/-- `n` ticks add `n` to the elapsed ticks, while these stay clear of the wrap of the millisecond counter. -/
theorem elapsedTicks_ticks (hF : F ≤ 65535) (ht : t.fine.toNat < F) (hlast : last.fine.toNat < F)
    (hclear : elapsedTicks F t last + n ≤ (2 ^ 32 - 1) * (F : Int)) :
    elapsedTicks F (t.ticks F n) last = elapsedTicks F t last + n := by
  induction n with
  | zero => simp [TimePoint.ticks_zero]
  | succ n ih =>
    push_cast at hclear ⊢
    have hn := ih (by omega)
    rw [TimePoint.ticks_succ, elapsedTicks_tick hF (TimePoint.ticks_fine_lt ht) hlast (by omega), hn]
    ring

end Ticks

/-! ### Ticks as steps -/

section Steps

variable {s : State} {rest : List Event}

/-- By R7 the ticks of a millisecond fit the 16-bit fine count. -/
theorem ticksPerMs_le {c : Config} (h : configLegal c = true) : c.ticksPerMs ≤ 65535 := by
  obtain ⟨-, -, -, -, -, -, -, -, -, -, -, hle, -⟩ := (configLegal_iff c).1 h
  exact hle

/-- A tick of a block that is not in reset is the tick of its time (R80, R291). -/
theorem step_tick (h : Next s .tick rest) :
    step s = .next { s with agenda := rest, time := s.time.tick s.cfg.ticksPerMs } := by
  obtain ⟨hcoming, hreset⟩ := h
  rw [step_coming hcoming, perform_released runWord _ (by exact hreset)]

/-- A run of ticks is that many ticks of the time, and changes nothing else but the list of events. -/
theorem run_ticks (n : Nat) (hc : configLegal s.cfg = true) (hreset : s.resetHeld = false)
    (ha : s.agenda = List.replicate n .tick ++ rest) :
    run n s = .next { s with agenda := rest, time := s.time.ticks s.cfg.ticksPerMs n } := by
  induction n generalizing s with
  | zero =>
    obtain rfl : s.agenda = rest := ha
    rfl
  | succ n ih => exact (run_succ _ _ _).2 ⟨_, step_tick ⟨⟨hc, ha⟩, hreset⟩, ih hc hreset rfl⟩

end Steps

end Sys2Proof.Machine
end

section
/-! SUPPORT. The flag predicate, the flag commands where the flag exists, and what becomes of an Idle flag (R293, R294,
R301 to R306). -/

namespace Sys2Proof.Machine

open Sys2Proof.Claims

/-! ### The predicate -/

section Predicate

variable {F : Nat} {E : Int} {w : Word} {now : TimePoint} {G : Flag}

/-- For a finite duration, `reached` compares the exact values (R293). -/
theorem reached_of_finite (h : Claims.Finite w) : reached F E (val w) = true ↔ valQ w * (1000 * F) ≤ (E : ℚ) := by
  rw [val_of_finite h, reached, decide_eq_true_eq, valQ_eq_signedUnits, div_mul_eq_mul_div,
    div_le_iff₀ (by positivity)]
  exact_mod_cast Iff.rfl

/-- Of the durations that are not finite, −∞ alone is ever reached (R293). -/
theorem reached_of_not_finite (h : ¬ Claims.Finite w) : reached F E (val w) = true ↔ w = infW true := by
  obtain hinf | hnan := (not_lt.1 fun hlt => h ((finite_iff w).2 hlt)).eq_or_lt
  · obtain ⟨neg, rfl⟩ : ∃ neg, w = infW neg := ⟨signBit w, by rw [← ofMag_infMag, hinf, ofMag_signBit_magBits]⟩
    rw [val_infW]
    cases neg
    · simp [reached, infW]
    · simp [reached]
  · have hw : isNaN w = true := decide_eq_true hnan
    rw [val_of_isNaN hw]
    have hne : w ≠ infW true := by
      rintro rfl
      exact absurd (hw.symm.trans (isNaN_infW true)) Bool.noConfusion
    exact iff_of_false Bool.false_ne_true hne

/-- An Idle flag does not fire (R293). -/
theorem flagExecute_of_idle (h : G.active = false) : flagExecute F now G = false := by simp [flagExecute, h]

/-- An active flag with a finite duration fires when its elapsed ticks reach it (R293). -/
theorem flagExecute_of_finite (hactive : G.active = true) (h : Claims.Finite G.duration) :
    flagExecute F now G = true ↔ valQ G.duration * (1000 * F) ≤ (elapsedTicks F now G.last : ℚ) := by
  rw [flagExecute, hactive, Bool.true_and, reached_of_finite h]

end Predicate

/-! ### The commands where the flag exists -/

section Commands

variable {s : State} {g : Nat}

theorem State.flag_setFlag_self (hg : g < s.flags.length) (G : Flag) : (s.setFlag g G).flag g = G :=
  (s.flag_setFlag g g G hg).trans (if_pos rfl)

/-- A flag written keeps every other, also where there is no such flag. -/
theorem State.flag_setFlag_of_ne {g' : Nat} (h : g' ≠ g) (G : Flag) : (s.setFlag g G).flag g' = s.flag g' := by
  simp [State.flag, State.setFlag, List.getElem?_set_ne (Ne.symm h)]

/-- A write of a flag that does not exist is no change (assumption 11). -/
theorem State.setFlag_of_length_le (h : s.flags.length ≤ g) (G : Flag) : s.setFlag g G = s := by
  rw [State.setFlag, List.set_eq_of_length_le h]

theorem onFlag_of_lt (hg : g < s.cfg.numFlag) (opc : Byte) (k : Out) : onFlag opc g s k = k := if_pos hg

theorem exec_flagArm (hg : g < s.cfg.numFlag) (subcmd cmd : Byte) : exec (.flagArm g subcmd cmd) s =
    .next (s.setFlag g ⟨true, s.arg0, (s.flag g).last, cmd, subcmd⟩) := onFlag_of_lt hg _ _

theorem exec_flagCancel (hg : g < s.cfg.numFlag) : exec (.flagCancel g) s =
    .next (s.setFlag g { s.flag g with active := false, duration := 0xBF800000 }) := onFlag_of_lt hg _ _

theorem exec_flagPoll (hg : g < s.cfg.numFlag) : exec (.flagPoll g) s =
    .next (s.setRes0 (if flagExecute s.cfg.ticksPerMs s.time (s.flag g) = true then 1 else 0)) := onFlag_of_lt hg _ _

/-- FLAG_DONE of a repeating flag (R304). -/
theorem exec_flagDone_repeating (hg : g < s.cfg.numFlag) (hpos : fgt (s.flag g).duration 0 = true) :
    exec (.flagDone g) s = .next (s.setFlag g { s.flag g with last := s.time }) :=
  (onFlag_of_lt hg _ _).trans (by rw [if_pos hpos])

/-- FLAG_DONE of a one-shot flag (R304). -/
theorem exec_flagDone_oneShot (hg : g < s.cfg.numFlag) (hpos : fgt (s.flag g).duration 0 = false) :
    exec (.flagDone g) s = .next (s.setFlag g { s.flag g with active := false }) :=
  (onFlag_of_lt hg _ _).trans (by rw [if_neg (Bool.not_eq_true _ ▸ hpos)])

theorem exec_flagDefault (hg : g < s.cfg.numFlag) : exec (.flagDefault g) s = .next (s.setFlag g Flag.fresh) :=
  onFlag_of_lt hg _ _

/-- The identifiers of a flag as FLAG_READ packs them (R305). -/
theorem flagIds_eq (subcmd cmd : Byte) :
    (0 : Half) ++ subcmd ++ cmd = BitVec.ofNat 32 (cmd.toNat + 256 * subcmd.toNat) := by
  apply BitVec.eq_of_toNat_eq
  have hcmd := cmd.isLt
  have hsubcmd := subcmd.isLt
  rw [BitVec.toNat_append, BitVec.toNat_append, ← Nat.shiftLeft_add_eq_or_of_lt hcmd,
    ← Nat.shiftLeft_add_eq_or_of_lt hsubcmd, Nat.shiftLeft_eq, Nat.shiftLeft_eq, BitVec.toNat_ofNat]
  simp
  omega

/-- A poll of an Idle flag reads 0 (R293, R303). -/
theorem exec_flagPoll_idle (hg : g < s.cfg.numFlag) (h : (s.flag g).active = false) :
    exec (.flagPoll g) s = .next (s.setRes0 0) := by
  rw [exec_flagPoll hg, flagExecute_of_idle h]
  rfl

/-- The host's FLAG_POLL as a step (R76, R303). -/
theorem step_flagPoll {rest : List Event} (hg : g < s.cfg.numFlag)
    (h : Next s (commandEvent s.cfg (encode (.flagPoll g))) rest) : step s =
      .next { s with
        agenda := rest, res0 := if flagExecute s.cfg.ticksPerMs s.time (s.flag g) = true then 1 else 0 } := by
  have hwf : (Instr.flagPoll g).wellFormed = true := by
    obtain ⟨⟨hc, -⟩, -⟩ := h
    obtain ⟨-, -, -, -, -, -, -, -, -, hmax, -⟩ := (configLegal_iff s.cfg).1 hc
    exact decide_eq_true (show g < 256 by omega)
  exact (step_command h).trans ((runWord_ok (decode_encode hwf) _).trans (exec_flagPoll hg))

end Commands

/-! ### The one-shot duration -/

theorem valQ_minusOne : valQ 0xBF800000 = -1 := by
  rw [valQ_eq_signedUnits, show signedUnits (signBit 0xBF800000) (magUnits (magBits 0xBF800000)) = -2 ^ 149 by decide]
  norm_num

/-- The duration −1.0 is not above zero, so a flag armed with it is a one-shot (R304). -/
theorem fgt_minusOne_zero : fgt 0xBF800000 0 = false := by decide

/-- A flag armed with −1.0 fires at once (R293, R308). -/
theorem flagExecute_minusOne {F : Nat} {now : TimePoint} {G : Flag} (hactive : G.active = true)
    (hduration : G.duration = 0xBF800000) (h : 0 ≤ elapsedTicks F now G.last) : flagExecute F now G = true := by
  rw [flagExecute_of_finite hactive (hduration ▸ by decide), hduration, valQ_minusOne]
  have hE : (0 : ℚ) ≤ elapsedTicks F now G.last := by exact_mod_cast h
  have hF : (0 : ℚ) ≤ F := F.cast_nonneg
  linarith

theorem elapsed_setFlag {s : State} {g : Nat} {G : Flag} (hlen : g < s.flags.length)
    (hlast : G.last = (s.flag g).last) : elapsed (s.setFlag g G) g = elapsed s g := by
  rw [elapsed, State.flag_setFlag_self hlen, hlast]
  rfl

/-- An active flag with the duration −1.0 polls 1, and FLAG_DONE makes it Idle, so that it polls 0 (R303, R304,
R308). -/
theorem oneShot_fires_once {s : State} {g : Nat} (hg : g < s.cfg.numFlag) (hlen : g < s.flags.length)
    (hactive : (s.flag g).active = true) (hduration : (s.flag g).duration = 0xBF800000) (helapsed : 0 ≤ elapsed s g) :
    ∃ t2 t3 t4, exec (.flagPoll g) s = .next t2 ∧ t2.res0 = 1 ∧ exec (.flagDone g) t2 = .next t3 ∧
      (t3.flag g).active = false ∧ exec (.flagPoll g) t3 = .next t4 ∧ t4.res0 = 0 := by
  have hpoll : exec (.flagPoll g) s = .next (s.setRes0 1) := by
    rw [exec_flagPoll hg, if_pos (flagExecute_minusOne hactive hduration helapsed)]
  have hidle : (((s.setRes0 1).setFlag g { s.flag g with active := false }).flag g).active = false :=
    congrArg Flag.active (State.flag_setFlag_self (s := s.setRes0 1) hlen _)
  exact ⟨_, _, _, hpoll, rfl, exec_flagDone_oneShot hg (hduration ▸ fgt_minusOne_zero), hidle,
    exec_flagPoll_idle hg hidle, rfl⟩

/-! ### An Idle flag -/

/-- Flag `g` is Idle (R294). -/
def State.Idle (g : Nat) (s : State) : Prop := (s.flag g).active = false

section Idle

variable {s t : State} {g : Nat}

theorem State.Idle.of_sameFlags (h : s.Idle g) (hflags : t.flags = s.flags) : t.Idle g := by
  rwa [State.Idle, State.flag, hflags]

/-- A write of a flag keeps flag `g` Idle, unless it is a write of an active flag to it. -/
theorem State.Idle.setFlag (h : s.Idle g) {g' : Nat} {G : Flag} (hG : g' = g → G.active = false) :
    (s.setFlag g' G).Idle g := by
  by_cases e : g' = g
  · subst e
    by_cases hlen : g' < s.flags.length
    · exact (congrArg Flag.active (State.flag_setFlag_self hlen G)).trans (hG rfl)
    · rwa [State.setFlag_of_length_le (not_lt.1 hlen)]
  · exact (congrArg Flag.active (State.flag_setFlag_of_ne (Ne.symm e) G)).trans h

/-- The reset procedure makes every flag Idle (R46, R371). -/
theorem applyReset_idle (s : State) (g : Nat) : s.applyReset.Idle g := by
  have hfresh : s.applyReset.flag g = Flag.fresh := List.getElem?_getD_replicate_default_eq ..
  rw [State.Idle, hfresh]
  rfl

/-- What a completing command has, it has in any weaker form. -/
theorem Completes.imp {p q : State → Prop} {k : Out} (h : Completes p s k) (hpq : ∀ t, p t → q t) : Completes q s k :=
  h.imp_left fun ⟨t, ht, hp⟩ => ⟨t, ht, hpq t hp⟩

/-- FLAG_DONE never makes a flag active (R304). -/
theorem execFlagDone_keepsIdle (h : s.Idle g) (g' : Nat) : Completes (State.Idle g) s (execFlagDone g' s) := by
  refine onFlag_completes (.next (h.setFlag ?_))
  rintro rfl
  split
  · exact h
  · rfl

/-- No command but its FLAG_ARM takes a flag out of Idle: SOFT_RESET apart, only the commands of the flags' unit write
flags at all (R294). -/
theorem exec_completesIdle (h : s.Idle g) (i : Instr) (hi : i ≠ .softReset)
    (harm : ∀ subcmd cmd, i ≠ .flagArm g subcmd cmd) : Completes (State.Idle g) s (exec i s) := by
  cases i with
  | flagArm g' subcmd cmd =>
    refine onFlag_completes (.next (h.setFlag ?_))
    rintro rfl
    exact absurd rfl (harm subcmd cmd)
  | flagCancel | flagDefault => exact onFlag_completes (.next (h.setFlag fun _ => rfl))
  | flagDone g' => exact execFlagDone_keepsIdle h g'
  | flagPoll => exact onFlag_completes (.next h)
  | flagRead g' sel => exact execFlagRead_completes (fun _ => h) g' sel
  | timeRead => exact .next h
  | _ =>
    exact (exec_keepsOtherUnits _ hi s).imp fun _ hkept => h.of_sameFlags (hkept.flags (by simp [Instr.opcode]))

theorem exec_keepsIdle (h : s.Idle g) {i : Instr} (harm : ∀ subcmd cmd, i ≠ .flagArm g subcmd cmd)
    (ht : exec i s = .next t) : t.Idle g := by
  by_cases hi : i = .softReset
  · subst hi
    exact next_inj.1 ht ▸ applyReset_idle s g
  · exact (exec_completesIdle h i hi harm).of_next (fun _ _ => h) ht

/-- The event is the host's write of a FLAG_ARM of flag `g` to CMD. -/
def Arms (cfg : Config) (g : Nat) (e : Event) : Prop :=
  ∃ subcmd cmd, e = commandEvent cfg (encode (.flagArm g subcmd cmd))

theorem runWord_keepsIdle (h : s.Idle g) {w : Word} (harm : ¬ Arms s.cfg g (commandEvent s.cfg w))
    (ht : runWord w s = .next t) : t.Idle g := by
  obtain ⟨i, hdec, e⟩ | ⟨err, -, e⟩ := runWord_cases w s <;> rw [e] at ht
  · refine exec_keepsIdle h (fun subcmd cmd hi => harm ⟨subcmd, cmd, ?_⟩) ht
    rw [← hi, (Proofs.encodeOfDecodeIsTheWord w i hdec).2]
  · exact next_inj.1 ht ▸ h

/-- A write that goes on runs a word, and is then a host's command, or writes no flag (R72, R73, R76). -/
theorem hostWrite_command_or_sameFlags {addr size : Nat} {v : Word} (ht : hostWrite runWord addr size v s = .next t) :
    (Event.write addr size v = commandEvent s.cfg v ∧ runWord v s = .next t) ∨ t.flags = s.flags := by
  unfold hostWrite at ht
  split at ht
  · next hwin =>
    split at ht
    · next hreg =>
      obtain ⟨rfl, hoff⟩ := regAt_eq_some_iff.1 hreg
      obtain ⟨hlow, -⟩ := of_decide_eq_true hwin
      obtain rfl : addr = s.cfg.base := Nat.le_antisymm (Nat.sub_eq_zero_iff_le.1 hoff) hlow
      exact .inl ⟨rfl, ht⟩
    all_goals
      obtain rfl := next_inj.1 ht
      exact .inr (by simp [State.accessFault])
  · cases ht

theorem hostWrite_keepsIdle (h : s.Idle g) {addr size : Nat} {v : Word} (harm : ¬ Arms s.cfg g (.write addr size v))
    (ht : hostWrite runWord addr size v s = .next t) : t.Idle g := by
  obtain ⟨hcommand, hrun⟩ | hflags := hostWrite_command_or_sameFlags ht
  · exact runWord_keepsIdle h (hcommand ▸ harm) hrun
  · exact h.of_sameFlags hflags

theorem hostRead_sameFlags {addr size : Nat} (ht : hostRead addr size s = .next t) : t.flags = s.flags := by
  obtain ⟨reg, -, -, e⟩ | ⟨-, -, e⟩ | ⟨-, e⟩ := hostRead_cases addr size s <;> rw [e] at ht
  · exact next_inj.1 ht ▸ s.readOut_flags reg
  · exact next_inj.1 ht ▸ rfl
  · cases ht

/-- An access that goes on was accepted (R370). -/
theorem acceptAccess_next {addr : Nat} {k : Out} (ht : acceptAccess addr s k = .next t) : k = .next t := by
  obtain ⟨-, e⟩ | ⟨-, e⟩ := acceptAccess_cases addr s k <;> rw [e] at ht
  · exact ht
  · cases ht

/-- A step of an environment agent that leaves the flags alone keeps them, in reset or not (R370). -/
theorem agentStep_sameFlags {u : State} (hu : u.flags = s.flags) (ht : agentStep s u = .next t) :
    t.flags = s.flags := by
  obtain ⟨-, e⟩ | ⟨-, e⟩ := agentStep_cases s u <;> rw [e] at ht
  · exact next_inj.1 ht ▸ hu
  · exact next_inj.1 ht ▸ rfl

/-- A release leaves every flag of a block in reset Idle, and changes nothing in any other (R370, R371). -/
theorem releaseReset_keepsIdle (h : s.Idle g) : s.releaseReset.Idle g := by
  obtain ⟨-, e⟩ | ⟨-, e⟩ := s.releaseReset_cases <;> rw [e]
  · exact applyReset_idle s g
  · exact h

/-- No event but the host's FLAG_ARM of a flag takes it out of Idle (R5, R294, R370). -/
theorem perform_keepsIdle (h : s.Idle g) {e : Event} (harm : ¬ Arms s.cfg g e) (ht : perform runWord e s = .next t) :
    t.Idle g := by
  cases e with
  | read addr size => exact h.of_sameFlags (hostRead_sameFlags (acceptAccess_next ht))
  | write addr size v => exact hostWrite_keepsIdle h harm (acceptAccess_next ht)
  | sample sd x b => exact h.of_sameFlags (agentStep_sameFlags (s.sampleSide_flags sd x b) ht)
  | tick => exact h.of_sameFlags (agentStep_sameFlags (u := { s with time := s.time.tick s.cfg.ticksPerMs }) rfl ht)
  | resetAssert => exact next_inj.1 ht ▸ h
  | resetRelease => exact next_inj.1 ht ▸ releaseReset_keepsIdle h

end Idle

end Sys2Proof.Machine
end

section
/-! SUPPORT. The statements about the time and the flags. -/

namespace Sys2Proof.Proofs

open Sys2Proof Sys2Proof.Machine Sys2Proof.Claims

/-- Settles O49: the run is that many ticks of the time, each of which adds one to the total count. -/
theorem ticksAddUp : Obligations.TicksAddUp := fun _ n _ hc hreset hfine ha =>
  ⟨_, run_ticks n hc hreset ha, rfl, TimePoint.ticks_fine_lt hfine, totalTicks_ticks (ticksPerMs_le hc) hfine⟩

/-- Settles O50: the step is the tick of the time, in either case of R291. -/
theorem tickAdvancesTheTimePoint : Obligations.TickAdvancesTheTimePoint := fun _ _ h =>
  ⟨fun hcarry => by rw [step_tick h, TimePoint.tick_of_carry hcarry],
    fun hcarry => by rw [step_tick h, TimePoint.tick_of_no_carry hcarry]⟩

/-- Settles O51: a finite duration is compared exactly, and of the others only −∞ is ever reached. -/
theorem flagPredicateIsExact : Obligations.FlagPredicateIsExact := by
  intro F now G hF
  rw [flagExecute, Bool.and_eq_true]
  refine and_congr_right fun _ => ?_
  by_cases hfin : Claims.Finite G.duration
  · have hne : G.duration ≠ 0xFF800000 := fun h => absurd (h ▸ hfin) (by decide)
    have hpos : (0 : ℚ) < 1000 * F := by positivity
    rw [reached_of_finite hfin, or_iff_left hne, and_iff_right hfin, le_div_iff₀ hpos]
  · rw [reached_of_not_finite hfin, or_iff_right fun h => hfin h.1]
    rfl

/-- Settles O52: the poll meets the time after the ticks, at which `n` more ticks have elapsed. -/
theorem pollAfterTicksFiresWhenDue : Obligations.PollAfterTicksFiresWhenDue := by
  intro s g n rest hs hreset hg hactive hfin _ hclear ha
  have hrun := run_ticks n hs.cfg_legal hreset ha
  have helapsed : elapsedTicks s.cfg.ticksPerMs (s.time.ticks s.cfg.ticksPerMs n) (s.flag g).last = elapsed s g + n :=
    elapsedTicks_ticks (ticksPerMs_le hs.cfg_legal) hs.time_fine_lt (hs.flag_fine_lt hg) hclear
  refine ⟨_, run_step hrun (step_flagPoll hg ⟨⟨hs.cfg_legal, rfl⟩, hreset⟩), rfl, ?_⟩
  refine ite_congr (propext ?_) (fun _ => rfl) fun _ => rfl
  rw [← helapsed]
  exact flagExecute_of_finite hactive hfin

/-- Settles O53: the flag exists, so none of these commands faults. -/
theorem timeAndFlagReads : Obligations.TimeAndFlagReads := by
  intro s
  refine ⟨?_, fun g hg => ⟨exec_flagPoll hg, onFlag_of_lt hg _ _, onFlag_of_lt hg _ _, onFlag_of_lt hg _ _, ?_, ?_⟩⟩
  · rw [BitVec.ofNat_toNat]
    rfl
  · rw [BitVec.ofNat_toNat]
    exact onFlag_of_lt hg _ _
  · rw [← flagIds_eq]
    exact onFlag_of_lt hg _ _

/-- Settles O54: the flag exists, so none of these commands faults. -/
theorem flagCommandsSetTheirFields : Obligations.FlagCommandsSetTheirFields := fun _ _ subcmd cmd hg =>
  ⟨exec_flagArm hg subcmd cmd, exec_flagCancel hg, exec_flagDone_repeating hg, exec_flagDone_oneShot hg,
    exec_flagDefault hg⟩

/-- Settles O55: the arming leaves the flag's time, so the elapsed ticks reach −1.0; FLAG_DONE makes a one-shot Idle. -/
theorem oneShotFiresOnce : Obligations.OneShotFiresOnce := by
  intro s g subcmd cmd hs hg harg helapsed
  have hlen : g < s.flags.length := hs.flags_length ▸ hg
  have harmed := State.flag_setFlag_self hlen ⟨true, s.arg0, (s.flag g).last, cmd, subcmd⟩
  have hfires := oneShot_fires_once (s := s.setFlag g ⟨true, s.arg0, (s.flag g).last, cmd, subcmd⟩) hg
    (hlen.trans_eq List.length_set.symm) (congrArg Flag.active harmed) ((congrArg Flag.duration harmed).trans harg)
    (helapsed.trans_eq (elapsed_setFlag hlen (by rfl)).symm)
  obtain ⟨t2, t3, t4, h⟩ := hfires
  exact ⟨_, t2, t3, t4, exec_flagArm hg subcmd cmd, h⟩

/-- Settles O56: every command and every event but its arming keeps the flag Idle. -/
theorem idleFlagStaysIdle : Obligations.IdleFlagStaysIdle := by
  intro s g _ hg hidle
  refine ⟨fun i t harm ht => exec_keepsIdle hidle harm ht, fun t harm hstep => ?_, exec_flagPoll_idle hg hidle⟩
  obtain ⟨-, ⟨-, rfl⟩ | ⟨e, rest, ha, ht⟩⟩ := step_next hstep
  · exact hidle
  · refine perform_keepsIdle (s := { s with agenda := rest }) hidle ?_ ht
    rintro ⟨subcmd, cmd, rfl⟩
    exact harm subcmd cmd rest ha

end Sys2Proof.Proofs
end

section
/-! SUPPORT. The two records a fault can make, read field by field (R34, R331). -/

namespace Sys2Proof.Machine

/-! ### The first fault: a STATUS word made of its fields -/

theorem recordFault_of_clear {w : Word} (h : statusErr w = false) (code info : Byte) :
    recordFault code info w = statusWord info code (statusMulti w) true :=
  if_neg (Bool.eq_false_iff.1 h)

theorem statusMulti_statusWord (info code : Byte) (multi err : Bool) :
    statusMulti (statusWord info code multi err) = multi :=
  getLsbD_statusWord info code multi err 1

/-- INFO is the top byte of the word, so its bit `i` is bit `24 + i` (R34). -/
theorem statusInfo_statusWord (info code : Byte) (multi err : Bool) :
    statusInfo (statusWord info code multi err) = info := by
  apply BitVec.eq_of_getLsbD_eq
  intro i hi
  have htop : (statusWord info code multi err).getLsbD (24 + i) = info.getLsbD i := by
    rw [getLsbD_statusWord, if_neg (by omega), if_neg (by omega), if_neg (by omega), if_neg (by omega),
      if_neg (by omega), Nat.add_sub_cancel_left]
  simp [statusInfo, hi, htop]

/-! ### A later fault: MULTI is set and no other bit -/

theorem recordFault_of_set {w : Word} (h : statusErr w = true) (code info : Byte) :
    recordFault code info w = w ||| 2 :=
  if_pos h

theorem statusMulti_setMulti (w : Word) : statusMulti (w ||| 2) = true := by
  rw [statusMulti, BitVec.getLsbD_or, show (2 : Word).getLsbD 1 = true by decide, Bool.or_true]

/-- A byte of STATUS in which MULTI does not lie is kept (R34). -/
theorem extractLsb'_setMulti {start : Nat} (h : (2 : Word).extractLsb' start 8 = 0) (w : Word) :
    (w ||| 2).extractLsb' start 8 = w.extractLsb' start 8 := by
  rw [BitVec.extractLsb'_or, h]
  exact BitVec.or_zero

theorem statusCode_setMulti (w : Word) : statusCode (w ||| 2) = statusCode w :=
  extractLsb'_setMulti (by decide) w

theorem statusInfo_setMulti (w : Word) : statusInfo (w ||| 2) = statusInfo w :=
  extractLsb'_setMulti (by decide) w

end Sys2Proof.Machine
end

section
/-! SUPPORT. The statement about the fault record. -/

namespace Sys2Proof.Proofs

open Sys2Proof Sys2Proof.Machine Sys2Proof.Claims

/-- Settles O15: the first fault writes the word of its fields, a later one sets MULTI in the word that stands. -/
theorem faultRecordKeepsTheFirst : Obligations.FaultRecordKeepsTheFirst := by
  intro code info w
  refine ⟨fun hclear => ⟨statusErr_recordFault code info w, ?_⟩, fun hset => ⟨statusErr_recordFault code info w, ?_⟩⟩
  · rw [recordFault_of_clear hclear]
    exact ⟨statusCode_statusWord _ _ _ _, statusInfo_statusWord _ _ _ _, statusMulti_statusWord _ _ _ _⟩
  · rw [recordFault_of_set hset]
    exact ⟨statusMulti_setMulti w, statusCode_setMulti w, statusInfo_setMulti w⟩

end Sys2Proof.Proofs
end
